-- ==== Sys2Proof/Word.lean ====
section
/-!
DEFINITION. The two word types of the block's registers (00_scope.md R9, R13).
A register is a vector of bits; the rules read it as a mathematical integer (int16, uint16, int32),
compute exactly, and narrow explicitly. The readings stand here; the narrowing functions, which a
test could show wrong, stand in Machine/Arith.lean.
-/
namespace Sys2Proof

/-- A 16-bit register or bus word. -/
abbrev W16 := BitVec 16

/-- A 32-bit register: a sum, a PI integrator, an operand, AW_CEIL. -/
abbrev W32 := BitVec 32

/-- A word address of the register space, 0x00 to 0x7F (20_memory.md R80). -/
abbrev Addr := BitVec 7

end Sys2Proof
end

