-- ==== Sys2Proof/Syntax.lean ====
section
/-!
DEFINITION. The command set: one constructor per row of spec/opcode_table.json, that is one per legal
(OP, UNIT) pair of 30_encoding.md R113, and the fields of a command word (R110). No command has an
immediate field (R112), so no constructor has an argument.
-/
namespace Sys2Proof

/-- The 31 commands of the block. The comment of each names its rule. -/
inductive Instr where
  | nop               -- 30_encoding.md R117
  -- fixed-point primitives, 40_fixed_point.md
  | sat16             -- R141
  | clamp             -- R142
  | mulq              -- R143
  | mulshr            -- R144
  | divq              -- R145
  | divt              -- R146
  | acc               -- R147
  | shra              -- R148
  -- estimators, 41_estimators.md
  | mafUpdateDcavg    -- R171, unit DCAVG
  | mafUpdateAcavg    -- R171, unit ACAVG
  | mafResetDcavg     -- R172, unit DCAVG
  | mafResetAcavg     -- R172, unit ACAVG
  | rmsUpdate         -- R175
  | rmsReset          -- R177
  | rect              -- R179
  -- PI units, 42_pi.md
  | piUpdatePiv       -- R202, unit PIV
  | piUpdatePic       -- R202, unit PIC
  | piResetPiv        -- R205, unit PIV
  | piResetPic        -- R205, unit PIC
  -- control loop, 43_control.md
  | softstart         -- R231
  | vloop             -- R232
  | iref              -- R234
  | boostd            -- R235
  | icorr             -- R236
  | iloop             -- R237
  -- fault monitor, 44_fault.md
  | faultTrip         -- R272
  | faultRecover      -- R273
  -- sequencer, 45_sequencer.md
  | estim             -- R291
  | init              -- R292
  | tick              -- R293
deriving DecidableEq, Repr

/-- The three fields of a command word (30_encoding.md R110), as raw as the port presents them. -/
structure WordFields where
  /-- bits 15:12, the unit instance -/
  unit : BitVec 4
  /-- bits 11:8, reserved, must be 0 -/
  rsv : BitVec 4
  /-- bits 7:0, the operation code -/
  op : BitVec 8
deriving DecidableEq, Repr

end Sys2Proof
end

