-- ==== Sys2Proof/WellFormed.lean ====
section
/-!
DEFINITION. Legality of a command word (30_encoding.md R114): the OP is listed, RSV is 0, and the UNIT is one
of those R113 lists for that OP. Every other word is illegal, for one of three named reasons (R115).
-/
namespace Sys2Proof

/-- Why a command word is illegal (30_encoding.md R115). -/
inductive IllegalWord where
  /-- "an unlisted OP" -/
  | unlistedOp
  /-- "a non-zero RSV" -/
  | nonzeroRsv
  /-- "a UNIT value not listed for the OP" -/
  | unlistedUnit
deriving DecidableEq, Repr

/-- The unit codes of 30_encoding.md R111. -/
def unitNone : BitVec 4 := 0
def unitDcavg : BitVec 4 := 1
def unitAcavg : BitVec 4 := 2
def unitRms : BitVec 4 := 3
def unitPiv : BitVec 4 := 4
def unitPic : BitVec 4 := 5

/-- The "units" column of the opcode map (30_encoding.md R113); `none` for a reserved OP. -/
def unitsOf (op : BitVec 8) : Option (List (BitVec 4)) :=
  let o := op.toNat
  if o ≤ 0x08 then some [unitNone]                          -- NOP, SAT16 … SHRA
  else if o = 0x10 ∨ o = 0x11 then some [unitDcavg, unitAcavg]   -- MAF_UPDATE, MAF_RESET
  else if o = 0x12 ∨ o = 0x13 then some [unitRms]           -- RMS_UPDATE, RMS_RESET
  else if o = 0x14 then some [unitNone]                     -- RECT
  else if o = 0x20 ∨ o = 0x21 then some [unitPiv, unitPic]  -- PI_UPDATE, PI_RESET
  else if 0x30 ≤ o ∧ o ≤ 0x35 then some [unitNone]          -- SOFTSTART … ILOOP
  else if o = 0x40 ∨ o = 0x41 then some [unitNone]          -- FAULT_TRIP, FAULT_RECOVER
  else if 0x50 ≤ o ∧ o ≤ 0x52 then some [unitNone]          -- ESTIM, INIT, TICK
  else none

/-- R114, with the reason a word fails it. Which check comes first is not observable (60_exceptions.md R342). -/
def WordFields.check (f : WordFields) : Except IllegalWord Unit :=
  match unitsOf f.op with
  | none => .error .unlistedOp
  | some us =>
    if f.rsv ≠ 0 then .error .nonzeroRsv
    else if us.contains f.unit then .ok ()
    else .error .unlistedUnit

/-- A word is legal (R114). -/
def WordFields.wellFormed (f : WordFields) : Bool :=
  match f.check with
  | .ok _ => true
  | .error _ => false

/-- The fields R113 gives each command: `{UNIT, 0000, OP}`. -/
def Instr.fields : Instr → WordFields
  | .nop => ⟨unitNone, 0, 0x00⟩
  | .sat16 => ⟨unitNone, 0, 0x01⟩
  | .clamp => ⟨unitNone, 0, 0x02⟩
  | .mulq => ⟨unitNone, 0, 0x03⟩
  | .mulshr => ⟨unitNone, 0, 0x04⟩
  | .divq => ⟨unitNone, 0, 0x05⟩
  | .divt => ⟨unitNone, 0, 0x06⟩
  | .acc => ⟨unitNone, 0, 0x07⟩
  | .shra => ⟨unitNone, 0, 0x08⟩
  | .mafUpdateDcavg => ⟨unitDcavg, 0, 0x10⟩
  | .mafUpdateAcavg => ⟨unitAcavg, 0, 0x10⟩
  | .mafResetDcavg => ⟨unitDcavg, 0, 0x11⟩
  | .mafResetAcavg => ⟨unitAcavg, 0, 0x11⟩
  | .rmsUpdate => ⟨unitRms, 0, 0x12⟩
  | .rmsReset => ⟨unitRms, 0, 0x13⟩
  | .rect => ⟨unitNone, 0, 0x14⟩
  | .piUpdatePiv => ⟨unitPiv, 0, 0x20⟩
  | .piUpdatePic => ⟨unitPic, 0, 0x20⟩
  | .piResetPiv => ⟨unitPiv, 0, 0x21⟩
  | .piResetPic => ⟨unitPic, 0, 0x21⟩
  | .softstart => ⟨unitNone, 0, 0x30⟩
  | .vloop => ⟨unitNone, 0, 0x31⟩
  | .iref => ⟨unitNone, 0, 0x32⟩
  | .boostd => ⟨unitNone, 0, 0x33⟩
  | .icorr => ⟨unitNone, 0, 0x34⟩
  | .iloop => ⟨unitNone, 0, 0x35⟩
  | .faultTrip => ⟨unitNone, 0, 0x40⟩
  | .faultRecover => ⟨unitNone, 0, 0x41⟩
  | .estim => ⟨unitNone, 0, 0x50⟩
  | .init => ⟨unitNone, 0, 0x51⟩
  | .tick => ⟨unitNone, 0, 0x52⟩

/-- An instruction is well-formed when its fields are legal; every constructor is (Laws/PerInstr.lean). -/
def Instr.wellFormed (i : Instr) : Bool := i.fields.wellFormed

end Sys2Proof
end

