-- ==== Sys2Proof/Decode.lean ====
section
/-!
DEFINITION. The decoder of a 16-bit command word, total and rejecting by name (30_encoding.md R114, R115), and
after it the encoder, written from the opcode map R113 and the table's encodings.
The port takes whole 16-bit words (20_memory.md R85), so the decoder takes a word, not bytes (log 14).
-/
namespace Sys2Proof

/-- The fields of a word (30_encoding.md R110). -/
def fieldsOf (w : W16) : WordFields :=
  { unit := w.extractLsb' 12 4, rsv := w.extractLsb' 8 4, op := w.extractLsb' 0 8 }

/-- `{UNIT, RSV, OP}` as one word. -/
def WordFields.word (f : WordFields) : W16 := f.unit ++ f.rsv ++ f.op

/-- The command a legal (OP, UNIT) pair names (30_encoding.md R113). -/
def commandOf (op unit : Nat) : Option Instr :=
  match op, unit with
  | 0x00, 0 => some .nop
  | 0x01, 0 => some .sat16
  | 0x02, 0 => some .clamp
  | 0x03, 0 => some .mulq
  | 0x04, 0 => some .mulshr
  | 0x05, 0 => some .divq
  | 0x06, 0 => some .divt
  | 0x07, 0 => some .acc
  | 0x08, 0 => some .shra
  | 0x10, 1 => some .mafUpdateDcavg
  | 0x10, 2 => some .mafUpdateAcavg
  | 0x11, 1 => some .mafResetDcavg
  | 0x11, 2 => some .mafResetAcavg
  | 0x12, 3 => some .rmsUpdate
  | 0x13, 3 => some .rmsReset
  | 0x14, 0 => some .rect
  | 0x20, 4 => some .piUpdatePiv
  | 0x20, 5 => some .piUpdatePic
  | 0x21, 4 => some .piResetPiv
  | 0x21, 5 => some .piResetPic
  | 0x30, 0 => some .softstart
  | 0x31, 0 => some .vloop
  | 0x32, 0 => some .iref
  | 0x33, 0 => some .boostd
  | 0x34, 0 => some .icorr
  | 0x35, 0 => some .iloop
  | 0x40, 0 => some .faultTrip
  | 0x41, 0 => some .faultRecover
  | 0x50, 0 => some .estim
  | 0x51, 0 => some .init
  | 0x52, 0 => some .tick
  | _, _ => none

/-- Decoding is total: "every 16-bit word is either legal or illegal" (30_encoding.md R114). -/
def decode (w : W16) : Except IllegalWord Instr :=
  let f := fieldsOf w
  match f.check with
  | .error r => .error r
  | .ok _ =>
    match commandOf f.op.toNat f.unit.toNat with
    | some i => .ok i
    | none => .error .unlistedUnit

/-- The word of each command, as spec/opcode_table.json writes it. -/
def encode : Instr → W16
  | .nop => 0x0000
  | .sat16 => 0x0001
  | .clamp => 0x0002
  | .mulq => 0x0003
  | .mulshr => 0x0004
  | .divq => 0x0005
  | .divt => 0x0006
  | .acc => 0x0007
  | .shra => 0x0008
  | .mafUpdateDcavg => 0x1010
  | .mafUpdateAcavg => 0x2010
  | .mafResetDcavg => 0x1011
  | .mafResetAcavg => 0x2011
  | .rmsUpdate => 0x3012
  | .rmsReset => 0x3013
  | .rect => 0x0014
  | .piUpdatePiv => 0x4020
  | .piUpdatePic => 0x5020
  | .piResetPiv => 0x4021
  | .piResetPic => 0x5021
  | .softstart => 0x0030
  | .vloop => 0x0031
  | .iref => 0x0032
  | .boostd => 0x0033
  | .icorr => 0x0034
  | .iloop => 0x0035
  | .faultTrip => 0x0040
  | .faultRecover => 0x0041
  | .estim => 0x0050
  | .init => 0x0051
  | .tick => 0x0052

/-- The instruction the decoder reads from a table word of `nbits` bits. A word that does not fit the 16-bit
port is no command word. -/
def decodeTableWord (nbits w : Nat) : Option Instr :=
  let v := w % 2 ^ nbits
  if v < 2 ^ 16 then
    match decode (BitVec.ofNat 16 v) with
    | .ok i => some i
    | .error _ => none
  else none

end Sys2Proof
end

