-- ==== Sys2Proof/Config.lean ====
section
/-!
DEFINITION. What an instantiation of the block fixes and what the spec leaves open: the model parameters
of 00_scope.md R10 and the free values. The hardwired constants of R11 stand in Machine/Arith.lean.

The parameters are plain data (log 3). The free values are opaque constants without a body: nothing in
Lean can prove a value of one, so what is proved holds for every value (logs 4, 5 and 6).
-/
namespace Sys2Proof

/-- `FAULT_SET_MODE`: how a trip sets its bit of the mask (44_fault.md R271). -/
inductive FaultSetMode where
  /-- bitwise OR, the normative default -/
  | or
  /-- addition modulo 2^16, the original's `+=` -/
  | add
deriving DecidableEq, Repr

/-- Which algorithm the parameter `PI_UPDATE` is (42_pi.md R202 to R204). -/
inductive PiAlgorithm where
  /-- the default of R204 -/
  | default
  /-- some other algorithm that obeys the laws of R203 and of which nothing else is known (log 4) -/
  | anyLawful
deriving DecidableEq, Repr

/-- The parameters a run is instantiated with (00_scope.md R10). "None of them is a register." -/
structure Params where
  faultSetMode : FaultSetMode
  /-- `RMS_SQ_SHIFT`, 0 to 31 (41_estimators.md R176) -/
  rmsSqShift : Fin 32
  piUpdate : PiAlgorithm
deriving DecidableEq, Repr

/-- The defaults of R10: OR, 15, and the algorithm of R204. -/
def Params.standard : Params := { faultSetMode := .or, rmsSqShift := 15, piUpdate := .default }

/-- Everything `PI_UPDATE` may depend on (42_pi.md R203 law 4), as the registers hold it. -/
structure PiArgs where
  /-- the old integral accumulator -/
  integ : W32
  /-- the error e -/
  e : W16
  /-- the effective integral gain -/
  kiEff : W16
  kp : W16
  kps : W16
  kis : W16
  min : W16
  max : W16
deriving DecidableEq, Repr

/-- The new integrator and output an algorithm computes. -/
structure PiValue where
  integ : W32
  out : W16
deriving DecidableEq, Repr, Inhabited

/-- One answer of `cal_update`: ready and offset (60_exceptions.md R349). -/
structure CalAnswer where
  ready : Bool
  offset : W16
deriving DecidableEq, Repr, Inhabited

/-- FREE VALUE. What an algorithm other than the default computes (42_pi.md R203: "The update algorithm" is
"Not fixed", R7); the laws are imposed where it is used (Machine/Pi.lean). Log 4. -/
opaque Config.piFree : PiArgs → PiValue

/-- FREE VALUE. `CalOracle`: the n-th answer drawn from the calibration unit, "a free draw, under no law"
(60_exceptions.md R349). Log 5. -/
opaque Config.calOracle : Nat → CalAnswer

/-- FREE VALUE. The n-th word read by the telemetry reader while a TICK runs: "any value, a free draw"
(20_memory.md R91). Log 6. -/
opaque Config.tornWord : Nat → W16

end Sys2Proof
end

