-- ==== Sys2Proof/Machine/State.lean ====
section
/-!
DEFINITION. The state of the block (10_state.md R30 to R51), as plain data, grouped as the spec groups its
registers. Every register of the map R51 has exactly one home here; the bus map over it is Machine/Bus.lean.
After the registers stand the model's own fields: the parameters of the run, the events that wait at the
port, and what the block has sent out (INVENTORY.md, "State").
-/
namespace Sys2Proof.Machine

/-- The sequencer phases (00_scope.md R18). Their codes are in Machine/Flags.lean. -/
inductive Phase where
  | init
  | offsetMeas
  | wait1Cycle
  | ctrlRun
  | fault
deriving DecidableEq, Repr

/-- `CTRL` (R33). Bits 15:4 have no storage: written values are ignored and read as 0. -/
structure Ctrl where
  trigen : Bool
  ocorrEn : Bool
  pbalEn : Bool
  dcmEn : Bool
deriving DecidableEq, Repr

/-- `STATUS` (R32). Bits 15:11 have no storage and read 0. `state` is the raw 3-bit code: 5 to 7 are never
written, and R302 says what a TICK does on them. -/
structure Status where
  state : BitVec 3
  outen : Bool
  calrdy : Bool
  dcrdy : Bool
  acrdy : Bool
  rmsrdy : Bool
  configured : Bool
  cfgerr : Bool
  illegal : Bool
deriving DecidableEq, Repr

/-- The sample inputs `VDC_S`, `VAC_S`, `IL_S` (R36). -/
structure Samples where
  vdc : W16
  vac : W16
  il : W16
deriving DecidableEq, Repr

/-- The operand registers `OPA`, `OPB`, `OPC` and the result `RES` (R37). -/
structure Operands where
  a : W32
  b : W32
  c : W32
  res : W32
deriving DecidableEq, Repr

/-- The measurement snapshot (R38). -/
structure Snapshot where
  vdc : W16
  vac : W16
  vacOffset : W16
  /-- `RECT`, a uint16 -/
  rect : W16
  il : W16
  ilOffset : W16
deriving DecidableEq, Repr

/-- The runtime registers of a moving-average unit (R39, R40); its ready flag is in `Status`, its window
length in `Cfg`. -/
structure MafUnit where
  sum : W32
  cnt : W16
  out : W16
deriving DecidableEq, Repr

/-- The runtime registers of the RMS estimator (R41). -/
structure RmsUnit where
  sum : W32
  cnt : W16
  out : W16
  peak : W16
deriving DecidableEq, Repr

/-- The runtime registers of a PI unit (R42, R43). -/
structure PiUnit where
  ref : W16
  err : W16
  integ : W32
  out : W16
deriving DecidableEq, Repr

/-- The controller scalars (R44). -/
structure Scalars where
  ssCnt : W16
  vlCnt : W16
  boostd : W16
  iref : W16
  iavg : W16
deriving DecidableEq, Repr

/-- The configuration registers of a PI unit (R42, R50). -/
structure PiCfg where
  kp : W16
  kps : W16
  ki : W16
  kis : W16
  min : W16
  max : W16
deriving DecidableEq, Repr

/-- The configuration registers (R50). -/
structure Cfg where
  dcavgN : W16
  acavgN : W16
  rmsN : W16
  piv : PiCfg
  pic : PiCfg
  vlDiv : W16
  shapeK : W16
  period : W16
  dutyMin : W16
  dutyMax : W16
  awCeil : W32
  voutMinpk : W16
  ssStep : W16
  ssPeriod : W16
  vrefFinal : W16
  dcOvLim : W16
  dcOvRec : W16
  acUvLim : W16
  acUvRec : W16
  acOvLim : W16
  acOvRec : W16
deriving DecidableEq, Repr

/-- Selects one of the two moving-average units (41_estimators.md R170). -/
inductive MafSel where
  | dcavg
  | acavg
deriving DecidableEq, Repr

/-- Selects one of the two PI units (42_pi.md R200). -/
inductive PiSel where
  | piv
  | pic
deriving DecidableEq, Repr

/-- One move of the outside world at the block's ordered port (20_memory.md R90). -/
inductive PortEvent where
  /-- a command word on the command port (30_encoding.md) -/
  | command (w : W16)
  /-- the host's `BusRead` -/
  | busRead (a : Addr)
  /-- the host's `BusWrite` -/
  | busWrite (a : Addr) (v : W16)
  /-- a periodic-trigger event (30_encoding.md R122) -/
  | trig
  /-- the telemetry reader's `BusRead`; `overlapsTick` says whether it overlaps a TICK in time (20_memory.md R91) -/
  | telemetryRead (a : Addr) (overlapsTick : Bool)
deriving DecidableEq, Repr

/-- The handshakes the block sends to its collaborators (60_exceptions.md R347 to R349). -/
inductive Call where
  | enableOutputs
  | disableOutputs
  | calStart
  | calUpdate
deriving DecidableEq, Repr

/-- The state of one block and of the ports around it. -/
structure State where
  ctrl : Ctrl
  status : Status
  /-- `FAULT`, the fault mask (R34) -/
  fault : W16
  /-- `DUTY`, the duty-cycle command (R35) -/
  duty : W16
  samples : Samples
  operands : Operands
  snap : Snapshot
  dcavg : MafUnit
  acavg : MafUnit
  rms : RmsUnit
  piv : PiUnit
  pic : PiUnit
  scal : Scalars
  cfg : Cfg
  /-- the parameters of the run (00_scope.md R10); no step writes them -/
  params : Params
  /-- events issued and not yet taken, oldest first (R90) -/
  port : List PortEvent
  /-- calibration answers given and not yet taken, oldest first (R349) -/
  calAnswers : List CalAnswer
  /-- how many answers were drawn from `Config.calOracle` -/
  calDraws : Nat
  /-- how many words were drawn from `Config.tornWord` -/
  tornDraws : Nat
  /-- the collaborator calls made, oldest first (70_reset_and_hazards.md R389) -/
  calls : List Call
  /-- the words returned to the host's reads, oldest first -/
  hostReads : List W16
  /-- the words returned to the telemetry reader, oldest first -/
  telemetryReads : List W16
deriving DecidableEq, Repr

/-- The block never stops with a fault: "The block takes no trap" (60_exceptions.md R330), every command runs to
completion or is refused by setting `STATUS.ILLEGAL` (R343, R335), and both are next states. So there is no
constructor, and no meaning can raise one (log 9). -/
inductive Fault where
deriving DecidableEq, Repr

/-- Why the MODEL has no meaning for an instruction. -/
inductive Refusal where
  /-- Raised by an arm of `exec` for an instruction without a meaning. No arm raises it: all 31 commands have
  theirs. Safe: it stops the run. -/
  | notModelled (mnemonic : String)
deriving DecidableEq, Repr

/-- What a command or a port move comes to. -/
abbrev Result := Host.Outcome State Fault Refusal

def MafUnit.zero : MafUnit := { sum := 0, cnt := 0, out := 0 }
def RmsUnit.zero : RmsUnit := { sum := 0, cnt := 0, out := 0, peak := 0 }
def PiUnit.zero : PiUnit := { ref := 0, err := 0, integ := 0, out := 0 }
def Snapshot.zero : Snapshot := { vdc := 0, vac := 0, vacOffset := 0, rect := 0, il := 0, ilOffset := 0 }
def Scalars.zero : Scalars := { ssCnt := 0, vlCnt := 0, boostd := 0, iref := 0, iavg := 0 }
def PiCfg.zero : PiCfg := { kp := 0, kps := 0, ki := 0, kis := 0, min := 0, max := 0 }
def Cfg.zero : Cfg :=
  { dcavgN := 0, acavgN := 0, rmsN := 0, piv := .zero, pic := .zero, vlDiv := 0, shapeK := 0, period := 0
    dutyMin := 0, dutyMax := 0, awCeil := 0, voutMinpk := 0, ssStep := 0, ssPeriod := 0, vrefFinal := 0
    dcOvLim := 0, dcOvRec := 0, acUvLim := 0, acUvRec := 0, acOvLim := 0, acOvRec := 0 }

/-- Power-on under the given parameters: every register, field and hidden state is 0 or idle, and no collaborator
has been called (70_reset_and_hazards.md R370, R371). -/
def State.powerOn (p : Params) : State :=
  { ctrl := { trigen := false, ocorrEn := false, pbalEn := false, dcmEn := false }
    status :=
      { state := 0, outen := false, calrdy := false, dcrdy := false, acrdy := false, rmsrdy := false
        configured := false, cfgerr := false, illegal := false }
    fault := 0
    duty := 0
    samples := { vdc := 0, vac := 0, il := 0 }
    operands := { a := 0, b := 0, c := 0, res := 0 }
    snap := .zero
    dcavg := .zero
    acavg := .zero
    rms := .zero
    piv := .zero
    pic := .zero
    scal := .zero
    cfg := .zero
    params := p
    port := []
    calAnswers := []
    calDraws := 0
    tornDraws := 0
    calls := []
    hostReads := []
    telemetryReads := [] }

/-- The machine right after power-on, with the default parameters of 00_scope.md R10. -/
def State.reset : State := State.powerOn Params.standard

end Sys2Proof.Machine
end

