-- ==== Sys2Proof/Machine/Arith.lean ====
section
/-!
DEFINITION. The pseudocode primitives (00_scope.md R14) and the hardwired constants (R11). Every expression of
the rules is evaluated over `Int`, exactly; a value is narrowed only by a function of this file (R13, R149).
-/
namespace Sys2Proof.Machine

/-- An int16 register as an integer. -/
def int16 (w : W16) : Int := w.toInt

/-- A uint16 register as an integer. -/
def uint16 (w : W16) : Int := w.toNat

/-- An int32 register as an integer. -/
def int32 (w : W32) : Int := w.toInt

/-- `sat16(v)` (R14). -/
def sat16 (v : Int) : Int := max (-32768) (min 32767 v)

/-- `clamp(v, lo, hi) = max(lo, min(v, hi))`, which is lo when lo > hi (R14). -/
def clamp (v lo hi : Int) : Int := max lo (min v hi)

/-- `v >>a s`: the arithmetic right shift, floor(v / 2^s) (R14). -/
def shra (v : Int) (s : Nat) : Int := v >>> s

/-- `tdiv(a, b)`: rounded toward zero (R14). Every use is guarded against b = 0 (R149). -/
def tdiv (a b : Int) : Int := Int.tdiv a b

/-- `wrap32(v)`: v mod 2^32, as an int32 register holds it (R14). -/
def wrap32 (v : Int) : W32 := BitVec.ofInt 32 v

/-- `wrap16u(v)`: v mod 2^16, as a uint16 register holds it (R14). -/
def wrap16u (v : Int) : W16 := BitVec.ofInt 16 v

/-- `sext16(v)` as an int16 register holds it: bits 15:0 of v (R14). -/
def sext16 (v : Int) : W16 := BitVec.ofInt 16 v

/-- `REG <- v` for a 16-bit register and a v in its type (R14); log 12 for the one value that can lie outside. -/
def to16 (v : Int) : W16 := BitVec.ofInt 16 v

/-- `REG <- v` for a 32-bit register and a v in its type (R14). -/
def to32 (v : Int) : W32 := BitVec.ofInt 32 v

/-- `GS_THRESH`, the gain-scheduling error threshold (R11). -/
def gsThresh : Int := 700

/-- `IREF_SHIFT1` (R11). -/
def irefShift1 : Nat := 18

/-- `IREF_SHIFT2` (R11). -/
def irefShift2 : Nat := 12

/-- `Q`, the fixed-point scale shift (R11). -/
def qShift : Nat := 15

/-- `IREF_MAX`, 0.999 in Q15 (R11). -/
def irefMax : Int := 32735

/-- `IL_MIN`, the minimum inductor current (R11). -/
def ilMin : Int := 1

/-- Q15 notation (00_scope.md R16): `trunc(f * 32768)`, saturated to int16. -/
def q15 (f : Rat) : Int := sat16 (Int.tdiv (f.num * 32768) f.den)

end Sys2Proof.Machine
end

