-- ==== Sys2Proof/Machine/Ops.lean ====
section
/-!
DEFINITION. The named operations the meanings share: raising ILLEGAL, the collaborator calls, the latch of the
samples, and what this block has in place of exception entry and return: the FAULT entry and return of
60_exceptions.md R332 and R333 ("No instruction performs a return"; nothing is saved).
-/
namespace Sys2Proof.Machine

/-- `raise ILLEGAL`: "set the sticky `STATUS.ILLEGAL` bit and make no other change" (00_scope.md R14,
60_exceptions.md R335). -/
def State.raiseIllegal (s : State) : State :=
  { s with status := { s.status with illegal := true } }

/-- Record a handshake, in order (60_exceptions.md R347). -/
def State.call (c : Call) (s : State) : State :=
  { s with calls := s.calls ++ [c] }

/-- `call enableOutputs(); STATUS.OUTEN <- 1` (60_exceptions.md R347). -/
def State.enableOutputs (s : State) : State :=
  let s := s.call .enableOutputs
  { s with status := { s.status with outen := true } }

/-- `call disableOutputs(); STATUS.OUTEN <- 0` (60_exceptions.md R347). -/
def State.disableOutputs (s : State) : State :=
  let s := s.call .disableOutputs
  { s with status := { s.status with outen := false } }

/-- `call cal_start()` (60_exceptions.md R348). -/
def State.calStart (s : State) : State := s.call .calStart

/-- The answer the calibration unit gives next: one already given, else a free draw (60_exceptions.md R349; log 5). -/
def State.calAnswer (s : State) : CalAnswer :=
  match s.calAnswers with
  | a :: _ => a
  | [] => Config.calOracle s.calDraws

/-- The answer is taken: it no longer waits, or one more draw was made. -/
def State.takeCalAnswer (s : State) : State :=
  match s.calAnswers with
  | _ :: rest => { s with calAnswers := rest }
  | [] => { s with calDraws := s.calDraws + 1 }

/-- `(rdy, off) <- call cal_update(); STATUS.CALRDY <- rdy; IL_OFFSET <- off` (60_exceptions.md R349, 45_sequencer.md R298). -/
def State.calUpdate (s : State) : State :=
  let ans := s.calAnswer
  let s := s.takeCalAnswer.call .calUpdate
  { s with
    status := { s.status with calrdy := ans.ready }
    snap := { s.snap with ilOffset := ans.offset } }

/-- `Latch()`: the samples of this invocation (45_sequencer.md R294). -/
def State.latch (s : State) : State :=
  { s with snap := { s.snap with vdc := s.samples.vdc, vac := s.samples.vac, il := s.samples.il } }

/-- The code of a phase in `STATUS.STATE` (10_state.md R32). -/
def Phase.code : Phase → BitVec 3
  | .init => 0
  | .offsetMeas => 1
  | .wait1Cycle => 2
  | .ctrlRun => 3
  | .fault => 4

/-- The phase a code of `STATUS.STATE` stands for; none for the unreachable 5 to 7 (45_sequencer.md R302). -/
def Phase.ofCode (c : BitVec 3) : Option Phase :=
  match c.toNat with
  | 0 => some .init
  | 1 => some .offsetMeas
  | 2 => some .wait1Cycle
  | 3 => some .ctrlRun
  | 4 => some .fault
  | _ => none

/-- `STATUS.STATE <- p`. -/
def State.setPhase (p : Phase) (s : State) : State :=
  { s with status := { s.status with state := p.code } }

/-- Fault entry (60_exceptions.md R332, 45_sequencer.md R300): the FAULT state, zero duty, outputs disabled, and nothing
saved: PIV_*, PIC_*, SS_CNT, VL_CNT and IREF stay where they were. -/
def State.faultEntry (s : State) : State :=
  let s := s.setPhase .fault
  let s := { s with duty := 0 }
  s.disableOutputs

/-- Fault return (60_exceptions.md R333, 45_sequencer.md R301): both integrators zeroed, the voltage reference reseeded,
outputs enabled, CTRL_RUN. -/
def State.faultReturn (s : State) : State :=
  let s := { s with
    piv := { s.piv with integ := 0, ref := s.dcavg.out }
    pic := { s.pic with integ := 0 } }
  let s := s.enableOutputs
  s.setPhase .ctrlRun

end Sys2Proof.Machine
end

