-- ==== Sys2Proof/Machine/Operands.lean ====
section
/-!
DEFINITION. The operand forms of 30_encoding.md R112: a whole 32-bit register, its bits 15:0 as a signed or an
unsigned value, a shift amount from OPC; and the result register. Upper bits a form does not use are ignored.
-/
namespace Sys2Proof.Machine

/-- A 32-bit operand: the whole register. -/
def opWhole (r : W32) : Int := int32 r

/-- A signed 16-bit operand, `sext16(OPx[15:0])`. -/
def opSigned (r : W32) : Int := int16 (r.extractLsb' 0 16)

/-- An unsigned 16-bit operand, `zext16(OPx[15:0])`. -/
def opUnsigned (r : W32) : Int := uint16 (r.extractLsb' 0 16)

/-- The shift amount of MULSHR, `OPC[5:0]`. -/
def shift6 (r : W32) : Nat := (r.extractLsb' 0 6).toNat

/-- The shift amount of SHRA, `OPC[4:0]`. -/
def shift5 (r : W32) : Nat := (r.extractLsb' 0 5).toNat

/-- `RES <- v`. -/
def State.setRes (v : W32) (s : State) : State :=
  { s with operands := { s.operands with res := v } }

end Sys2Proof.Machine
end

