-- ==== Sys2Proof/Machine/Flags.lean ====
section
/-!
DEFINITION. The status and mask bits: the word layout of CTRL and STATUS (10_state.md R32, R33), the ready flags
(R47), the gates of commands (30_encoding.md R116), and setting and clearing a fault bit (44_fault.md R271).
-/
namespace Sys2Proof.Machine

/-- A flag at bit k of a 16-bit word. -/
def flagAt (b : Bool) (k : Nat) : W16 := if b then (1 : W16) <<< k else 0

/-- `CTRL` as the bus reads it; bits 15:4 read 0 (10_state.md R33). -/
def Ctrl.word (c : Ctrl) : W16 :=
  flagAt c.trigen 0 ||| flagAt c.ocorrEn 1 ||| flagAt c.pbalEn 2 ||| flagAt c.dcmEn 3

/-- `STATUS` as the bus reads it; bits 15:11 read 0 (10_state.md R32). -/
def Status.word (t : Status) : W16 :=
  t.state.setWidth 16 ||| flagAt t.outen 3 ||| flagAt t.calrdy 4 ||| flagAt t.dcrdy 5 ||| flagAt t.acrdy 6
    ||| flagAt t.rmsrdy 7 ||| flagAt t.configured 8 ||| flagAt t.cfgerr 9 ||| flagAt t.illegal 10

/-- The gates of 30_encoding.md R116. -/
inductive Gate where
  | g0
  | g1
  | g2
  | g3
  | g4
deriving DecidableEq, Repr

/-- The condition of a gate, read before the command (R116). -/
def Gate.holds (g : Gate) (s : State) : Bool :=
  match g with
  | .g0 => true
  | .g1 => !s.ctrl.trigen
  | .g2 => !s.ctrl.trigen && s.status.configured
  | .g3 => !s.ctrl.trigen
  | .g4 => s.status.configured

/-- Run a command under its gate: "If the gate fails, the command raises ILLEGAL and has no other effect" (R116). -/
def gated (g : Gate) (f : State → State) (s : State) : Result :=
  .next (if g.holds s then f s else s.raiseIllegal)

/-- `u_RDY <- b` for a moving-average unit (10_state.md R47). -/
def State.setMafReady (u : MafSel) (b : Bool) (s : State) : State :=
  match u with
  | .dcavg => { s with status := { s.status with dcrdy := b } }
  | .acavg => { s with status := { s.status with acrdy := b } }

/-- `STATUS.RMSRDY <- b`. -/
def State.setRmsReady (b : Bool) (s : State) : State :=
  { s with status := { s.status with rmsrdy := b } }

/-- The three fault bits of the mask (44_fault.md R270). -/
def outOv : W16 := 0x0001
def inUv : W16 := 0x0002
def inOv : W16 := 0x0004

/-- `FaultSet(b)` in the mode of the run (44_fault.md R271): OR, or an addition modulo 2^16. -/
def State.faultSet (b : W16) (s : State) : State :=
  { s with fault := match s.params.faultSetMode with
      | .or => s.fault ||| b
      | .add => s.fault + b }

/-- `FaultClear(b)`: AND-NOT in both modes (44_fault.md R271). -/
def State.faultClear (b : W16) (s : State) : State :=
  { s with fault := s.fault &&& ~~~b }

end Sys2Proof.Machine
end

