-- ==== Sys2Proof/Machine/Bus.lean ====
section
/-!
DEFINITION. The register bus: the map of 10_state.md R51 as one constructor per 16-bit word, each word's
address, access class and storage, and `BusRead` and `BusWrite` (20_memory.md R80 to R87).
A 32-bit register is two words, LO (bits 15:0) at the even address and HI at the next (R84).
-/
namespace Sys2Proof.Machine

/-- The access classes (10_state.md R31). -/
inductive Class where
  | k
  | s
  | i
  | d
  | c
  | r
deriving DecidableEq, Repr

/-- The words of the register map (10_state.md R51). -/
inductive Reg where
  | ctrl
  | status
  | fault
  | duty
  | vdcS
  | vacS
  | ilS
  | opaLo
  | opaHi
  | opbLo
  | opbHi
  | opcLo
  | opcHi
  | resLo
  | resHi
  | vdc
  | vac
  | vacOffset
  | rect
  | il
  | ilOffset
  | dcavgSumLo
  | dcavgSumHi
  | dcavgCnt
  | dcavgOut
  | acavgSumLo
  | acavgSumHi
  | acavgCnt
  | acavgOut
  | rmsSumLo
  | rmsSumHi
  | rmsCnt
  | rmsOut
  | rmsPeak
  | pivRef
  | pivErr
  | pivIntLo
  | pivIntHi
  | pivOut
  | picRef
  | picErr
  | picIntLo
  | picIntHi
  | picOut
  | ssCnt
  | vlCnt
  | boostd
  | iref
  | iavg
  | dcavgN
  | acavgN
  | rmsN
  | pivKp
  | pivKps
  | pivKi
  | pivKis
  | pivMin
  | pivMax
  | picKp
  | picKps
  | picKi
  | picKis
  | picMin
  | picMax
  | vlDiv
  | shapeK
  | period
  | dutyMin
  | dutyMax
  | awCeilLo
  | awCeilHi
  | voutMinpk
  | ssStep
  | ssPeriod
  | vrefFinal
  | dcOvLim
  | dcOvRec
  | acUvLim
  | acUvRec
  | acOvLim
  | acOvRec
deriving DecidableEq, Repr

/-- Every mapped word, in address order. -/
def Reg.all : List Reg :=
  ([.ctrl, .status, .fault, .duty, .vdcS, .vacS, .ilS, .opaLo, .opaHi, .opbLo] : List Reg) ++
  ([.opbHi, .opcLo, .opcHi, .resLo, .resHi, .vdc, .vac, .vacOffset, .rect, .il] : List Reg) ++
  ([.ilOffset, .dcavgSumLo, .dcavgSumHi, .dcavgCnt, .dcavgOut, .acavgSumLo, .acavgSumHi, .acavgCnt, .acavgOut, .rmsSumLo] : List Reg) ++
  ([.rmsSumHi, .rmsCnt, .rmsOut, .rmsPeak, .pivRef, .pivErr, .pivIntLo, .pivIntHi, .pivOut, .picRef] : List Reg) ++
  ([.picErr, .picIntLo, .picIntHi, .picOut, .ssCnt, .vlCnt, .boostd, .iref, .iavg, .dcavgN] : List Reg) ++
  ([.acavgN, .rmsN, .pivKp, .pivKps, .pivKi, .pivKis, .pivMin, .pivMax, .picKp, .picKps] : List Reg) ++
  ([.picKi, .picKis, .picMin, .picMax, .vlDiv, .shapeK, .period, .dutyMin, .dutyMax, .awCeilLo] : List Reg) ++
  ([.awCeilHi, .voutMinpk, .ssStep, .ssPeriod, .vrefFinal, .dcOvLim, .dcOvRec, .acUvLim, .acUvRec, .acOvLim] : List Reg) ++
  ([.acOvRec] : List Reg)

/-- The word address (10_state.md R51). -/
def Reg.addr : Reg → Addr
  | .ctrl => 0x00
  | .status => 0x01
  | .fault => 0x02
  | .duty => 0x03
  | .vdcS => 0x08
  | .vacS => 0x09
  | .ilS => 0x0A
  | .opaLo => 0x0C
  | .opaHi => 0x0D
  | .opbLo => 0x0E
  | .opbHi => 0x0F
  | .opcLo => 0x10
  | .opcHi => 0x11
  | .resLo => 0x12
  | .resHi => 0x13
  | .vdc => 0x18
  | .vac => 0x19
  | .vacOffset => 0x1A
  | .rect => 0x1B
  | .il => 0x1C
  | .ilOffset => 0x1D
  | .dcavgSumLo => 0x20
  | .dcavgSumHi => 0x21
  | .dcavgCnt => 0x22
  | .dcavgOut => 0x23
  | .acavgSumLo => 0x24
  | .acavgSumHi => 0x25
  | .acavgCnt => 0x26
  | .acavgOut => 0x27
  | .rmsSumLo => 0x28
  | .rmsSumHi => 0x29
  | .rmsCnt => 0x2A
  | .rmsOut => 0x2B
  | .rmsPeak => 0x2C
  | .pivRef => 0x30
  | .pivErr => 0x31
  | .pivIntLo => 0x32
  | .pivIntHi => 0x33
  | .pivOut => 0x34
  | .picRef => 0x38
  | .picErr => 0x39
  | .picIntLo => 0x3A
  | .picIntHi => 0x3B
  | .picOut => 0x3C
  | .ssCnt => 0x40
  | .vlCnt => 0x41
  | .boostd => 0x42
  | .iref => 0x43
  | .iavg => 0x44
  | .dcavgN => 0x50
  | .acavgN => 0x51
  | .rmsN => 0x52
  | .pivKp => 0x53
  | .pivKps => 0x54
  | .pivKi => 0x55
  | .pivKis => 0x56
  | .pivMin => 0x57
  | .pivMax => 0x58
  | .picKp => 0x59
  | .picKps => 0x5A
  | .picKi => 0x5B
  | .picKis => 0x5C
  | .picMin => 0x5D
  | .picMax => 0x5E
  | .vlDiv => 0x60
  | .shapeK => 0x61
  | .period => 0x62
  | .dutyMin => 0x63
  | .dutyMax => 0x64
  | .awCeilLo => 0x66
  | .awCeilHi => 0x67
  | .voutMinpk => 0x68
  | .ssStep => 0x69
  | .ssPeriod => 0x6A
  | .vrefFinal => 0x6B
  | .dcOvLim => 0x6C
  | .dcOvRec => 0x6D
  | .acUvLim => 0x6E
  | .acUvRec => 0x6F
  | .acOvLim => 0x70
  | .acOvRec => 0x71

/-- The access class (10_state.md R51). -/
def Reg.cls : Reg → Class
  | .ctrl => .k
  | .status => .s
  | .fault => .d
  | .duty => .d
  | .vdcS => .i
  | .vacS => .i
  | .ilS => .i
  | .opaLo => .d
  | .opaHi => .d
  | .opbLo => .d
  | .opbHi => .d
  | .opcLo => .d
  | .opcHi => .d
  | .resLo => .d
  | .resHi => .d
  | .vdc => .d
  | .vac => .d
  | .vacOffset => .d
  | .rect => .d
  | .il => .d
  | .ilOffset => .d
  | .dcavgSumLo => .d
  | .dcavgSumHi => .d
  | .dcavgCnt => .d
  | .dcavgOut => .d
  | .acavgSumLo => .d
  | .acavgSumHi => .d
  | .acavgCnt => .d
  | .acavgOut => .d
  | .rmsSumLo => .d
  | .rmsSumHi => .d
  | .rmsCnt => .d
  | .rmsOut => .d
  | .rmsPeak => .d
  | .pivRef => .d
  | .pivErr => .d
  | .pivIntLo => .d
  | .pivIntHi => .d
  | .pivOut => .d
  | .picRef => .d
  | .picErr => .d
  | .picIntLo => .d
  | .picIntHi => .d
  | .picOut => .d
  | .ssCnt => .d
  | .vlCnt => .d
  | .boostd => .d
  | .iref => .d
  | .iavg => .d
  | .dcavgN => .c
  | .acavgN => .c
  | .rmsN => .c
  | .pivKp => .c
  | .pivKps => .c
  | .pivKi => .c
  | .pivKis => .c
  | .pivMin => .c
  | .pivMax => .c
  | .picKp => .c
  | .picKps => .c
  | .picKi => .c
  | .picKis => .c
  | .picMin => .c
  | .picMax => .c
  | .vlDiv => .c
  | .shapeK => .c
  | .period => .c
  | .dutyMin => .c
  | .dutyMax => .c
  | .awCeilLo => .c
  | .awCeilHi => .c
  | .voutMinpk => .c
  | .ssStep => .c
  | .ssPeriod => .c
  | .vrefFinal => .c
  | .dcOvLim => .c
  | .dcOvRec => .c
  | .acUvLim => .c
  | .acUvRec => .c
  | .acOvLim => .c
  | .acOvRec => .c

/-- The mapped word at an address, if there is one; the others are reserved (10_state.md R51). -/
def Reg.ofAddr (a : Addr) : Option Reg := Reg.all.find? (fun r => r.addr == a)

/-- The class of an address (10_state.md R31): R where no word is mapped. -/
def classOf (a : Addr) : Class :=
  match Reg.ofAddr a with
  | some r => r.cls
  | none => .r

/-- Bits 15:0 of a 32-bit register. -/
def lo16 (r : W32) : W16 := r.extractLsb' 0 16

/-- Bits 31:16 of a 32-bit register. -/
def hi16 (r : W32) : W16 := r.extractLsb' 16 16

/-- Replace bits 15:0 and keep the other half (20_memory.md R82). -/
def withLo (r : W32) (v : W16) : W32 := hi16 r ++ v

/-- Replace bits 31:16 and keep the other half (20_memory.md R82). -/
def withHi (r : W32) (v : W16) : W32 := v ++ lo16 r

/-- The 16-bit word of a mapped register (20_memory.md R81). -/
def Reg.get (s : State) : Reg → W16
  | .ctrl => s.ctrl.word
  | .status => s.status.word
  | .fault => s.fault
  | .duty => s.duty
  | .vdcS => s.samples.vdc
  | .vacS => s.samples.vac
  | .ilS => s.samples.il
  | .opaLo => lo16 s.operands.a
  | .opaHi => hi16 s.operands.a
  | .opbLo => lo16 s.operands.b
  | .opbHi => hi16 s.operands.b
  | .opcLo => lo16 s.operands.c
  | .opcHi => hi16 s.operands.c
  | .resLo => lo16 s.operands.res
  | .resHi => hi16 s.operands.res
  | .vdc => s.snap.vdc
  | .vac => s.snap.vac
  | .vacOffset => s.snap.vacOffset
  | .rect => s.snap.rect
  | .il => s.snap.il
  | .ilOffset => s.snap.ilOffset
  | .dcavgSumLo => lo16 s.dcavg.sum
  | .dcavgSumHi => hi16 s.dcavg.sum
  | .dcavgCnt => s.dcavg.cnt
  | .dcavgOut => s.dcavg.out
  | .acavgSumLo => lo16 s.acavg.sum
  | .acavgSumHi => hi16 s.acavg.sum
  | .acavgCnt => s.acavg.cnt
  | .acavgOut => s.acavg.out
  | .rmsSumLo => lo16 s.rms.sum
  | .rmsSumHi => hi16 s.rms.sum
  | .rmsCnt => s.rms.cnt
  | .rmsOut => s.rms.out
  | .rmsPeak => s.rms.peak
  | .pivRef => s.piv.ref
  | .pivErr => s.piv.err
  | .pivIntLo => lo16 s.piv.integ
  | .pivIntHi => hi16 s.piv.integ
  | .pivOut => s.piv.out
  | .picRef => s.pic.ref
  | .picErr => s.pic.err
  | .picIntLo => lo16 s.pic.integ
  | .picIntHi => hi16 s.pic.integ
  | .picOut => s.pic.out
  | .ssCnt => s.scal.ssCnt
  | .vlCnt => s.scal.vlCnt
  | .boostd => s.scal.boostd
  | .iref => s.scal.iref
  | .iavg => s.scal.iavg
  | .dcavgN => s.cfg.dcavgN
  | .acavgN => s.cfg.acavgN
  | .rmsN => s.cfg.rmsN
  | .pivKp => s.cfg.piv.kp
  | .pivKps => s.cfg.piv.kps
  | .pivKi => s.cfg.piv.ki
  | .pivKis => s.cfg.piv.kis
  | .pivMin => s.cfg.piv.min
  | .pivMax => s.cfg.piv.max
  | .picKp => s.cfg.pic.kp
  | .picKps => s.cfg.pic.kps
  | .picKi => s.cfg.pic.ki
  | .picKis => s.cfg.pic.kis
  | .picMin => s.cfg.pic.min
  | .picMax => s.cfg.pic.max
  | .vlDiv => s.cfg.vlDiv
  | .shapeK => s.cfg.shapeK
  | .period => s.cfg.period
  | .dutyMin => s.cfg.dutyMin
  | .dutyMax => s.cfg.dutyMax
  | .awCeilLo => lo16 s.cfg.awCeil
  | .awCeilHi => hi16 s.cfg.awCeil
  | .voutMinpk => s.cfg.voutMinpk
  | .ssStep => s.cfg.ssStep
  | .ssPeriod => s.cfg.ssPeriod
  | .vrefFinal => s.cfg.vrefFinal
  | .dcOvLim => s.cfg.dcOvLim
  | .dcOvRec => s.cfg.dcOvRec
  | .acUvLim => s.cfg.acUvLim
  | .acUvRec => s.cfg.acUvRec
  | .acOvLim => s.cfg.acOvLim
  | .acOvRec => s.cfg.acOvRec

/-- `word(a) <- v`: replace one 16-bit word (20_memory.md R82). CTRL and STATUS are not written this way: R83
gives CTRL's write, and STATUS has none. -/
def Reg.set (v : W16) (s : State) : Reg → State
  | .ctrl => s
  | .status => s
  | .fault => { s with fault := v }
  | .duty => { s with duty := v }
  | .vdcS => { s with samples := { s.samples with vdc := v } }
  | .vacS => { s with samples := { s.samples with vac := v } }
  | .ilS => { s with samples := { s.samples with il := v } }
  | .opaLo => { s with operands := { s.operands with a := withLo s.operands.a v } }
  | .opaHi => { s with operands := { s.operands with a := withHi s.operands.a v } }
  | .opbLo => { s with operands := { s.operands with b := withLo s.operands.b v } }
  | .opbHi => { s with operands := { s.operands with b := withHi s.operands.b v } }
  | .opcLo => { s with operands := { s.operands with c := withLo s.operands.c v } }
  | .opcHi => { s with operands := { s.operands with c := withHi s.operands.c v } }
  | .resLo => { s with operands := { s.operands with res := withLo s.operands.res v } }
  | .resHi => { s with operands := { s.operands with res := withHi s.operands.res v } }
  | .vdc => { s with snap := { s.snap with vdc := v } }
  | .vac => { s with snap := { s.snap with vac := v } }
  | .vacOffset => { s with snap := { s.snap with vacOffset := v } }
  | .rect => { s with snap := { s.snap with rect := v } }
  | .il => { s with snap := { s.snap with il := v } }
  | .ilOffset => { s with snap := { s.snap with ilOffset := v } }
  | .dcavgSumLo => { s with dcavg := { s.dcavg with sum := withLo s.dcavg.sum v } }
  | .dcavgSumHi => { s with dcavg := { s.dcavg with sum := withHi s.dcavg.sum v } }
  | .dcavgCnt => { s with dcavg := { s.dcavg with cnt := v } }
  | .dcavgOut => { s with dcavg := { s.dcavg with out := v } }
  | .acavgSumLo => { s with acavg := { s.acavg with sum := withLo s.acavg.sum v } }
  | .acavgSumHi => { s with acavg := { s.acavg with sum := withHi s.acavg.sum v } }
  | .acavgCnt => { s with acavg := { s.acavg with cnt := v } }
  | .acavgOut => { s with acavg := { s.acavg with out := v } }
  | .rmsSumLo => { s with rms := { s.rms with sum := withLo s.rms.sum v } }
  | .rmsSumHi => { s with rms := { s.rms with sum := withHi s.rms.sum v } }
  | .rmsCnt => { s with rms := { s.rms with cnt := v } }
  | .rmsOut => { s with rms := { s.rms with out := v } }
  | .rmsPeak => { s with rms := { s.rms with peak := v } }
  | .pivRef => { s with piv := { s.piv with ref := v } }
  | .pivErr => { s with piv := { s.piv with err := v } }
  | .pivIntLo => { s with piv := { s.piv with integ := withLo s.piv.integ v } }
  | .pivIntHi => { s with piv := { s.piv with integ := withHi s.piv.integ v } }
  | .pivOut => { s with piv := { s.piv with out := v } }
  | .picRef => { s with pic := { s.pic with ref := v } }
  | .picErr => { s with pic := { s.pic with err := v } }
  | .picIntLo => { s with pic := { s.pic with integ := withLo s.pic.integ v } }
  | .picIntHi => { s with pic := { s.pic with integ := withHi s.pic.integ v } }
  | .picOut => { s with pic := { s.pic with out := v } }
  | .ssCnt => { s with scal := { s.scal with ssCnt := v } }
  | .vlCnt => { s with scal := { s.scal with vlCnt := v } }
  | .boostd => { s with scal := { s.scal with boostd := v } }
  | .iref => { s with scal := { s.scal with iref := v } }
  | .iavg => { s with scal := { s.scal with iavg := v } }
  | .dcavgN => { s with cfg := { s.cfg with dcavgN := v } }
  | .acavgN => { s with cfg := { s.cfg with acavgN := v } }
  | .rmsN => { s with cfg := { s.cfg with rmsN := v } }
  | .pivKp => { s with cfg := { s.cfg with piv := { s.cfg.piv with kp := v } } }
  | .pivKps => { s with cfg := { s.cfg with piv := { s.cfg.piv with kps := v } } }
  | .pivKi => { s with cfg := { s.cfg with piv := { s.cfg.piv with ki := v } } }
  | .pivKis => { s with cfg := { s.cfg with piv := { s.cfg.piv with kis := v } } }
  | .pivMin => { s with cfg := { s.cfg with piv := { s.cfg.piv with min := v } } }
  | .pivMax => { s with cfg := { s.cfg with piv := { s.cfg.piv with max := v } } }
  | .picKp => { s with cfg := { s.cfg with pic := { s.cfg.pic with kp := v } } }
  | .picKps => { s with cfg := { s.cfg with pic := { s.cfg.pic with kps := v } } }
  | .picKi => { s with cfg := { s.cfg with pic := { s.cfg.pic with ki := v } } }
  | .picKis => { s with cfg := { s.cfg with pic := { s.cfg.pic with kis := v } } }
  | .picMin => { s with cfg := { s.cfg with pic := { s.cfg.pic with min := v } } }
  | .picMax => { s with cfg := { s.cfg with pic := { s.cfg.pic with max := v } } }
  | .vlDiv => { s with cfg := { s.cfg with vlDiv := v } }
  | .shapeK => { s with cfg := { s.cfg with shapeK := v } }
  | .period => { s with cfg := { s.cfg with period := v } }
  | .dutyMin => { s with cfg := { s.cfg with dutyMin := v } }
  | .dutyMax => { s with cfg := { s.cfg with dutyMax := v } }
  | .awCeilLo => { s with cfg := { s.cfg with awCeil := withLo s.cfg.awCeil v } }
  | .awCeilHi => { s with cfg := { s.cfg with awCeil := withHi s.cfg.awCeil v } }
  | .voutMinpk => { s with cfg := { s.cfg with voutMinpk := v } }
  | .ssStep => { s with cfg := { s.cfg with ssStep := v } }
  | .ssPeriod => { s with cfg := { s.cfg with ssPeriod := v } }
  | .vrefFinal => { s with cfg := { s.cfg with vrefFinal := v } }
  | .dcOvLim => { s with cfg := { s.cfg with dcOvLim := v } }
  | .dcOvRec => { s with cfg := { s.cfg with dcOvRec := v } }
  | .acUvLim => { s with cfg := { s.cfg with acUvLim := v } }
  | .acUvRec => { s with cfg := { s.cfg with acUvRec := v } }
  | .acOvLim => { s with cfg := { s.cfg with acOvLim := v } }
  | .acOvRec => { s with cfg := { s.cfg with acOvRec := v } }

/-- `BusRead(a)`: the word at a, 0 at a reserved address; no side effect (20_memory.md R81, R87). -/
def busRead (a : Addr) (s : State) : W16 :=
  match Reg.ofAddr a with
  | some r => r.get s
  | none => 0

/-- `BusWrite(0x00, v)`: TRIGEN is always writable, the option bits only while it is 0 (20_memory.md R83). -/
def writeCtrl (v : W16) (s : State) : State :=
  let new : Ctrl :=
    { trigen := v.getLsbD 0, ocorrEn := v.getLsbD 1, pbalEn := v.getLsbD 2, dcmEn := v.getLsbD 3 }
  let optionsChange := { new with trigen := s.ctrl.trigen } != s.ctrl
  if s.ctrl.trigen && optionsChange then
    { s with ctrl := { s.ctrl with trigen := new.trigen } }.raiseIllegal
  else if optionsChange then
    { s with ctrl := new, status := { s.status with configured := false } }
  else
    { s with ctrl := { s.ctrl with trigen := new.trigen } }

/-- `BusWrite(a, v)` by the class of a (20_memory.md R82). TRIGEN is its value before the write. -/
def busWrite (a : Addr) (v : W16) (s : State) : State :=
  match Reg.ofAddr a with
  | none => s.raiseIllegal                                          -- class R
  | some r =>
    match r.cls with
    | .i => r.set v s
    | .k => writeCtrl v s
    | .s => s.raiseIllegal
    | .r => s.raiseIllegal
    | .d => if s.ctrl.trigen then s.raiseIllegal else r.set v s
    | .c =>
      if s.ctrl.trigen then s.raiseIllegal
      else
        let s := r.set v s
        { s with status := { s.status with configured := false } }

end Sys2Proof.Machine
end

