-- ==== Sys2Proof/Machine/FixedPoint.lean ====
section
/-!
DEFINITION. NOP (30_encoding.md R117) and the fixed-point primitives (40_fixed_point.md R140 to R149): they read
OPA, OPB and OPC, write only RES, set no flag, and run under gate G1.
-/
namespace Sys2Proof.Machine

/-- `NOP` "has no effect, and its gate G0 always holds" (30_encoding.md R117). -/
def execNop (s : State) : Result := gated .g0 (fun s => s) s

/-- `SAT16`: `RES <- sat16(a)` (R141). -/
def execSat16 (s : State) : Result :=
  gated .g1 (fun s => s.setRes (to32 (sat16 (opWhole s.operands.a)))) s

/-- `CLAMP`: `RES <- max(lo, min(x, hi))` (R142). -/
def execClamp (s : State) : Result :=
  gated .g1
    (fun s => s.setRes (to32 (clamp (opWhole s.operands.a) (opWhole s.operands.b) (opWhole s.operands.c)))) s

/-- The saturating Q15 product `sat16((a * b) >>a 15)` (R143). -/
def mulQ (a b : Int) : Int := sat16 (shra (a * b) 15)

/-- `MULQ` (R143). -/
def execMulq (s : State) : Result :=
  gated .g1 (fun s => s.setRes (to32 (mulQ (opSigned s.operands.a) (opSigned s.operands.b)))) s

/-- `MULSHR`: `RES <- wrap32((x * y) >>a s)` with s = OPC[5:0] (R144). -/
def execMulshr (s : State) : Result :=
  gated .g1
    (fun s => s.setRes (wrap32 (shra (opWhole s.operands.a * opWhole s.operands.b) (shift6 s.operands.c)))) s

/-- The scaled divide `sat16(tdiv(a * 2^15, b))`, for b ≠ 0 (R145). -/
def divQ (a b : Int) : Int := sat16 (tdiv (a * 32768) b)

/-- `DIVQ`: a zero divisor leaves RES unchanged, unsignalled (R145). -/
def execDivq (s : State) : Result :=
  gated .g1
    (fun s =>
      if opSigned s.operands.b ≠ 0 then
        s.setRes (to32 (divQ (opSigned s.operands.a) (opSigned s.operands.b)))
      else s) s

/-- `DIVT`: truncating divide; a zero divisor leaves RES unchanged (R146). -/
def execDivt (s : State) : Result :=
  gated .g1
    (fun s =>
      if opWhole s.operands.b ≠ 0 then
        s.setRes (wrap32 (tdiv (opWhole s.operands.a) (opWhole s.operands.b)))
      else s) s

/-- `ACC`: `RES <- wrap32(a + b)` (R147). -/
def execAcc (s : State) : Result :=
  gated .g1 (fun s => s.setRes (wrap32 (opWhole s.operands.a + opWhole s.operands.b))) s

/-- `SHRA`: `RES <- a >>a s` with s = OPC[4:0] (R148). -/
def execShra (s : State) : Result :=
  gated .g1 (fun s => s.setRes (to32 (shra (opWhole s.operands.a) (shift5 s.operands.c)))) s

end Sys2Proof.Machine
end

