-- ==== Sys2Proof/Machine/Pi.lean ====
section
/-!
DEFINITION. The PI units (42_pi.md R200 to R210): the parameter `PI_UPDATE` with its default algorithm R204 and
its laws R203, the update and reset of a unit. The anti-windup forcing is part of the current loop
(Machine/Control.lean).
-/
namespace Sys2Proof.Machine

/-- The runtime registers of a PI unit. -/
def State.pi (p : PiSel) (s : State) : PiUnit :=
  match p with
  | .piv => s.piv
  | .pic => s.pic

/-- Write the runtime registers of a PI unit. -/
def State.setPi (p : PiSel) (u : PiUnit) (s : State) : State :=
  match p with
  | .piv => { s with piv := u }
  | .pic => { s with pic := u }

/-- The configuration registers of a PI unit. -/
def State.piCfg (p : PiSel) (s : State) : PiCfg :=
  match p with
  | .piv => s.cfg.piv
  | .pic => s.cfg.pic

/-- The default algorithm: a parallel PI, integrator and output clamped to [MIN, MAX] (R204). -/
def piDefault (a : PiArgs) : PiValue :=
  let pterm := shra (int16 a.kp * int16 a.e) a.kps.toNat
  let integ :=
    clamp (int32 a.integ + shra (int16 a.kiEff * int16 a.e) a.kis.toNat) (int16 a.min) (int16 a.max)
  { integ := to32 integ, out := to16 (clamp (pterm + integ) (int16 a.min) (int16 a.max)) }

/-- Any other algorithm the laws of R203 admit: a function of the arguments law 4 lists, of which only law 3 is
known, that its output lies in [MIN, MAX] where MIN ≤ MAX (log 4). Laws 1, 2 and 5 hold by the form of
`piUpdate` and the types. -/
def piAnyLawful (a : PiArgs) : PiValue :=
  let v := Config.piFree a
  if int16 a.min ≤ int16 a.max then
    { v with out := to16 (clamp (int16 v.out) (int16 a.min) (int16 a.max)) }
  else v

/-- The parameter `PI_UPDATE` (R202). -/
def piAlgorithm (alg : PiAlgorithm) (a : PiArgs) : PiValue :=
  match alg with
  | .default => piDefault a
  | .anyLawful => piAnyLawful a

/-- `PiUpdate(p, e, kiEff)`: it writes `p_ERR`, `p_INT` and `p_OUT` and nothing else (R202, R203). -/
def piUpdate (p : PiSel) (e kiEff : W16) (s : State) : State :=
  let c := s.piCfg p
  let v := piAlgorithm s.params.piUpdate
    { integ := (s.pi p).integ, e := e, kiEff := kiEff, kp := c.kp, kps := c.kps, kis := c.kis, min := c.min, max := c.max }
  s.setPi p { s.pi p with err := e, integ := v.integ, out := v.out }

/-- `p_INT <- 0` (R205). -/
def piReset (p : PiSel) (s : State) : State := s.setPi p { s.pi p with integ := 0 }

/-- `PiClear(p)`: `p_INT`, `p_OUT` and `p_ERR` to 0, `p_REF` kept (R206). -/
def piClear (p : PiSel) (s : State) : State := s.setPi p { s.pi p with integ := 0, out := 0, err := 0 }

/-- `PI_UPDATE` on unit PIV, with kiEff = `PIV_KI` (R202). -/
def execPiUpdatePiv (s : State) : Result :=
  gated .g2 (fun s => piUpdate .piv (to16 (opSigned s.operands.a)) s.cfg.piv.ki s) s

/-- `PI_UPDATE` on unit PIC, with kiEff = `PIC_KI` (R202). -/
def execPiUpdatePic (s : State) : Result :=
  gated .g2 (fun s => piUpdate .pic (to16 (opSigned s.operands.a)) s.cfg.pic.ki s) s

/-- `PI_RESET` on unit PIV (R205). -/
def execPiResetPiv (s : State) : Result := gated .g2 (piReset .piv) s

/-- `PI_RESET` on unit PIC (R205). -/
def execPiResetPic (s : State) : Result := gated .g2 (piReset .pic) s

end Sys2Proof.Machine
end

