-- ==== Sys2Proof/Machine/Control.lean ====
section
/-!
DEFINITION. The control-loop operations (43_control.md R230 to R243). Each reads and writes the block's named
registers; the command of each runs it alone under gate G2, and CTRL_RUN runs them in the order of R230.
-/
namespace Sys2Proof.Machine

/-- `SoftStart()`: one step of the ramp of `PIV_REF` toward `VREF_FINAL` (R231). -/
def softStart (s : State) : State :=
  if int16 s.piv.ref < int16 s.cfg.vrefFinal then
    if uint16 s.scal.ssCnt > 1 then
      { s with scal := { s.scal with ssCnt := to16 (uint16 s.scal.ssCnt - 1) } }
    else
      { s with
        scal := { s.scal with ssCnt := s.cfg.ssPeriod }
        piv := { s.piv with
          ref := to16 (min (int16 s.piv.ref + int16 s.cfg.ssStep) (int16 s.cfg.vrefFinal)) } }
  else s

/-- `GainSchedule(e)`: the integral gain of the voltage loop, halved when |e| > 700 (R233). -/
def gainSchedule (ki : W16) (e : Int) : W16 :=
  if (e.natAbs : Int) > gsThresh then to16 (shra (int16 ki) 1) else ki

/-- `VLoop()`: the decimated voltage-loop step (R232). -/
def vLoop (s : State) : State :=
  let s := { s with scal := { s.scal with vlCnt := wrap16u (uint16 s.scal.vlCnt + 1) } }
  if uint16 s.scal.vlCnt > uint16 s.cfg.vlDiv then
    let s := { s with scal := { s.scal with vlCnt := 0 } }
    let e := sat16 (int16 s.piv.ref - int16 s.dcavg.out)
    piUpdate .piv (to16 e) (gainSchedule s.cfg.piv.ki e) s
  else s

/-- The unclamped current reference (R234): power-balance shaping, or the plain product when it is off. -/
def irefRaw (pbal : Bool) (pivOut rect rmsOut shapeK : Int) : Int :=
  if pbal then
    let t := shra (pivOut * rect) irefShift1
    let t := if rmsOut > 0 then tdiv t rmsOut else t
    shra (t * shapeK) irefShift2
  else
    shra (pivOut * rect) qShift

/-- `IRef()`: the current reference, clamped to [0, 0.999] (R234). -/
def iRef (s : State) : State :=
  let t := irefRaw s.ctrl.pbalEn (int16 s.piv.out) (uint16 s.snap.rect) (int16 s.rms.out) (int16 s.cfg.shapeK)
  { s with scal := { s.scal with iref := to16 (clamp t 0 irefMax) } }

/-- `BoostD()`: the ideal boost duty ratio, unchanged when `VDC <= 0` (R235). -/
def boostD (s : State) : State :=
  let vdc := int16 s.snap.vdc
  if vdc > 0 then
    { s with scal := { s.scal with
      boostd := to16 (sat16 (tdiv ((vdc - uint16 s.snap.rect) * 32768) vdc)) } }
  else s

/-- `ICorr()`: the current-sensor offset correction, when enabled (R236). -/
def iCorr (s : State) : State :=
  if s.ctrl.ocorrEn then
    { s with snap := { s.snap with il := to16 (sat16 (int16 s.snap.il - int16 s.snap.ilOffset)) } }
  else s

/-- The averaged current: DCM-corrected by the previous PI output over the ideal duty, else the sample (R237). -/
def averageCurrent (dcm : Bool) (boostd picOut il : Int) : Int :=
  if dcm ∧ boostd > 0 then
    let t := sat16 (tdiv (picOut * 32768) boostd)
    shra (t * il) qShift
  else il

/-- `DutyConvert()`: the duty, and the anti-windup forcing when it is pinned at `DUTY_MAX` (R238). -/
def dutyConvert (s : State) : State :=
  let raw := shra (int16 s.pic.out * uint16 s.cfg.period) qShift
  let s := { s with duty := to16 (clamp raw (uint16 s.cfg.dutyMin) (uint16 s.cfg.dutyMax)) }
  if s.duty = s.cfg.dutyMax then { s with pic := { s.pic with integ := s.cfg.awCeil } } else s

/-- `StandbyOverride()`: zero duty and current integrator when `PIV_OUT < VOUT_MINPK` (R239). -/
def standbyOverride (s : State) : State :=
  if int16 s.piv.out < int16 s.cfg.voutMinpk then
    { s with duty := 0, pic := { s.pic with integ := 0 } }
  else s

/-- `ILoop()`: the current loop (R237). -/
def iLoop (s : State) : State :=
  let s := { s with snap := { s.snap with il := to16 (max (int16 s.snap.il) ilMin) } }
  let iavg := averageCurrent s.ctrl.dcmEn (int16 s.scal.boostd) (int16 s.pic.out) (int16 s.snap.il)
  let s := { s with
    scal := { s.scal with iavg := to16 iavg }
    pic := { s.pic with ref := s.scal.iref } }
  let e := sat16 (int16 s.scal.iref - int16 s.scal.iavg)
  let s := piUpdate .pic (to16 e) s.cfg.pic.ki s
  let s := dutyConvert s
  standbyOverride s

/-- `SOFTSTART` (R231). -/
def execSoftstart (s : State) : Result := gated .g2 softStart s

/-- `VLOOP` (R232). -/
def execVloop (s : State) : Result := gated .g2 vLoop s

/-- `IREF` (R234). -/
def execIref (s : State) : Result := gated .g2 iRef s

/-- `BOOSTD` (R235). -/
def execBoostd (s : State) : Result := gated .g2 boostD s

/-- `ICORR` (R236). -/
def execIcorr (s : State) : Result := gated .g2 iCorr s

/-- `ILOOP` (R237). -/
def execIloop (s : State) : Result := gated .g2 iLoop s

end Sys2Proof.Machine
end

