-- ==== Sys2Proof/Machine/Estimators.lean ====
section
/-!
DEFINITION. The estimators (41_estimators.md R170 to R180): the two moving-average units, the mean-square (RMS)
unit and the rectifier. Each procedure is defined once; the commands and ESTIM call it.
-/
namespace Sys2Proof.Machine

/-- The runtime registers of a moving-average unit. -/
def State.maf (u : MafSel) (s : State) : MafUnit :=
  match u with
  | .dcavg => s.dcavg
  | .acavg => s.acavg

/-- Write the runtime registers of a moving-average unit. -/
def State.setMaf (u : MafSel) (m : MafUnit) (s : State) : State :=
  match u with
  | .dcavg => { s with dcavg := m }
  | .acavg => { s with acavg := m }

/-- The window length `u_N`. -/
def State.mafN (u : MafSel) (s : State) : W16 :=
  match u with
  | .dcavg => s.cfg.dcavgN
  | .acavg => s.cfg.acavgN

/-- `u_SUM` and `u_CNT` with one more sample (R171). -/
def MafUnit.add (x : Int) (m : MafUnit) : MafUnit :=
  { m with sum := wrap32 (int32 m.sum + x), cnt := wrap16u (uint16 m.cnt + 1) }

/-- The end of a window of n samples (R171). The division is guarded by n ≥ 1 (40_fixed_point.md R149): a failed
guard, which no configured run reaches, skips the output's update (log 12). -/
def MafUnit.emit (n : W16) (m : MafUnit) : MafUnit :=
  { sum := 0
    cnt := 0
    out := if n = 0 then m.out else sext16 (tdiv (int32 m.sum) (uint16 n)) }

/-- `MafUpdate(u, x)` (R171). -/
def mafUpdate (u : MafSel) (x : Int) (s : State) : State :=
  let m := (s.maf u).add x
  if m.cnt = s.mafN u then (s.setMaf u (m.emit (s.mafN u))).setMafReady u true
  else s.setMaf u m

/-- `MafReset(u)` (R172). -/
def mafReset (u : MafSel) (s : State) : State := (s.setMaf u .zero).setMafReady u false

/-- `RmsTerm(x) = min((x * x) >>a RMS_SQ_SHIFT, 32767)` (R176). -/
def rmsTerm (sh : Nat) (x : Int) : Int := min (shra (x * x) sh) 32767

/-- The RMS registers with one more magnitude sample (R175). -/
def RmsUnit.add (sh : Nat) (x : Int) (r : RmsUnit) : RmsUnit :=
  { r with
    sum := wrap32 (int32 r.sum + rmsTerm sh x)
    cnt := wrap16u (uint16 r.cnt + 1)
    peak := to16 (max (uint16 r.peak) x) }

/-- The end of a window (R175). The guard n ≥ 1 is as in `MafUnit.emit` (log 12). -/
def RmsUnit.emit (n : W16) (r : RmsUnit) : RmsUnit :=
  { r with
    sum := 0
    cnt := 0
    out := if n = 0 then r.out else sext16 (tdiv (int32 r.sum) (uint16 n)) }

/-- `RmsUpdate(x)` (R175). -/
def rmsUpdate (x : Int) (s : State) : State :=
  let r := s.rms.add s.params.rmsSqShift.val x
  if r.cnt = s.cfg.rmsN then { s with rms := r.emit s.cfg.rmsN }.setRmsReady true
  else { s with rms := r }

/-- `RmsReset()` (R177). -/
def rmsReset (s : State) : State := { s with rms := .zero }.setRmsReady false

/-- `Rectify(a, b) = abs(a - b)`, exact, 0 to 65535 (R179). -/
def rectify (a b : Int) : Int := (a - b).natAbs

/-- `MAF_UPDATE` on unit DCAVG (R171). -/
def execMafUpdateDcavg (s : State) : Result :=
  gated .g2 (fun s => mafUpdate .dcavg (opSigned s.operands.a) s) s

/-- `MAF_UPDATE` on unit ACAVG (R171). -/
def execMafUpdateAcavg (s : State) : Result :=
  gated .g2 (fun s => mafUpdate .acavg (opSigned s.operands.a) s) s

/-- `MAF_RESET` on unit DCAVG (R172). -/
def execMafResetDcavg (s : State) : Result := gated .g2 (mafReset .dcavg) s

/-- `MAF_RESET` on unit ACAVG (R172). -/
def execMafResetAcavg (s : State) : Result := gated .g2 (mafReset .acavg) s

/-- `RMS_UPDATE` (R175). -/
def execRmsUpdate (s : State) : Result :=
  gated .g2 (fun s => rmsUpdate (opUnsigned s.operands.a) s) s

/-- `RMS_RESET` (R177). -/
def execRmsReset (s : State) : Result := gated .g2 rmsReset s

/-- `RECT`: `RES <- Rectify(a, b)`, zero-extended; gate G1 (R179). -/
def execRect (s : State) : Result :=
  gated .g1
    (fun s => s.setRes (to32 (rectify (opSigned s.operands.a) (opSigned s.operands.b)))) s

end Sys2Proof.Machine
end

