-- ==== Sys2Proof/Machine/FaultMonitor.lean ====
section
/-!
DEFINITION. The fault monitor (44_fault.md R270 to R276): trip comparisons that set bits of the mask, and the
hysteresis recovery comparisons that clear them. All comparisons are signed int16 comparisons (R270).
-/
namespace Sys2Proof.Machine

/-- `FaultTrip()`, in the order OUT_OV, IN_UV, IN_OV; no bit is cleared (R272). -/
def faultTrip (s : State) : State :=
  let s := if int16 s.dcavg.out ≥ int16 s.cfg.dcOvLim then s.faultSet outOv else s
  let s := if int16 s.rms.out < int16 s.cfg.acUvLim then s.faultSet inUv else s
  if int16 s.rms.out ≥ int16 s.cfg.acOvLim then s.faultSet inOv else s

/-- `FaultRecover()`: each comparison strict; no bit is set (R273). -/
def faultRecover (s : State) : State :=
  let s := if int16 s.rms.out > int16 s.cfg.acUvRec then s.faultClear inUv else s
  let s := if int16 s.rms.out < int16 s.cfg.acOvRec then s.faultClear inOv else s
  if int16 s.dcavg.out < int16 s.cfg.dcOvRec then s.faultClear outOv else s

/-- `FAULT_TRIP` (R272). -/
def execFaultTrip (s : State) : Result := gated .g2 faultTrip s

/-- `FAULT_RECOVER` (R273). -/
def execFaultRecover (s : State) : Result := gated .g2 faultRecover s

end Sys2Proof.Machine
end

