-- ==== Sys2Proof/Machine/Sequencer.lean ====
section
/-!
DEFINITION. The sequencer (45_sequencer.md R290 to R306): the estimation step, the one-shot INIT command with its
configuration check, the periodic TICK, and the five state handlers.
-/
namespace Sys2Proof.Machine

/-- `Estim()`: every estimator once, on the snapshot, with the live AC offset (R291). -/
def estim (s : State) : State :=
  let s := mafUpdate .dcavg (int16 s.snap.vdc) s
  let s := mafUpdate .acavg (int16 s.snap.vac) s
  let s := { s with snap := { s.snap with vacOffset := s.acavg.out } }
  let s := { s with snap := { s.snap with rect := to16 (rectify (int16 s.snap.vac) (int16 s.snap.vacOffset)) } }
  rmsUpdate (uint16 s.snap.rect) s

/-- The legal ranges of one PI unit's configuration (R296). -/
def PiCfg.legal (c : PiCfg) : Bool :=
  decide (0 ≤ int16 c.kp) && decide (0 ≤ int16 c.ki) && decide (c.kps.toNat ≤ 31) && decide (c.kis.toNat ≤ 31)
    && decide (int16 c.min ≤ int16 c.max)

/-- `ConfigLegal()` (R296). -/
def Cfg.legal (c : Cfg) : Bool :=
  decide (1 ≤ c.dcavgN.toNat) && decide (1 ≤ c.acavgN.toNat) && decide (1 ≤ c.rmsN.toNat)
    && c.piv.legal && c.pic.legal
    && decide (c.dutyMin.toNat ≤ c.dutyMax.toNat)
    && decide (1 ≤ c.ssPeriod.toNat)
    && decide (0 ≤ int16 c.ssStep)
    && decide (c.vlDiv.toNat ≤ 65534)

/-- The effects of an INIT command whose check passed (R292). -/
def initPass (s : State) : State :=
  let s := { s with status := { s.status with
    configured := true, cfgerr := false, illegal := false, state := Phase.init.code } }
  let s := { s with fault := 0, duty := 0, snap := .zero }
  let s := mafReset .dcavg s
  let s := mafReset .acavg s
  let s := rmsReset s
  let s := { s with piv := .zero, pic := .zero, scal := .zero }
  let s := { s with status := { s.status with calrdy := false } }
  s.disableOutputs

/-- The effects of an INIT command whose check failed: CFGERR, not ILLEGAL (R292, 60_exceptions.md R336). -/
def initFail (s : State) : State :=
  { s with status := { s.status with cfgerr := true, configured := false } }

/-- The INIT command past its gate (R292). -/
def initCommand (s : State) : State := if s.cfg.legal then initPass s else initFail s

/-- The handler of state INIT (R297). -/
def stateInit (s : State) : State :=
  let s := mafReset .dcavg s
  let s := mafReset .acavg s
  let s := rmsReset s
  let s := piClear .piv s
  let s := piClear .pic s
  let s := { s with snap := { s.snap with vacOffset := 0 }, duty := 0 }
  let s := s.disableOutputs
  let s := s.calStart
  let s := { s with
    status := { s.status with calrdy := false }
    scal := { s.scal with vlCnt := 0, ssCnt := s.cfg.ssPeriod } }
  s.setPhase .offsetMeas

/-- The handler of state OFFSET_MEAS (R298). -/
def stateOffsetMeas (s : State) : State :=
  let s := s.calUpdate
  if s.status.calrdy && s.status.dcrdy then
    let s := { s with
      piv := { s.piv with ref := s.dcavg.out }
      snap := { s.snap with vacOffset := s.acavg.out } }
    s.setPhase .wait1Cycle
  else s

/-- The handler of state WAIT_1CYCLE (R299). -/
def stateWait1Cycle (s : State) : State :=
  if s.status.rmsrdy then s.enableOutputs.setPhase .ctrlRun else s

/-- The handler of state CTRL_RUN (R300), with the order of 43_control.md R230. -/
def stateCtrlRun (s : State) : State :=
  let s := iCorr s
  if s.fault ≠ 0 then s.faultEntry
  else iLoop (boostD (iRef (vLoop (softStart s))))

/-- The handler of state FAULT (R301). -/
def stateFault (s : State) : State :=
  let s := { s with duty := 0 }
  let s := s.disableOutputs
  let s := faultRecover s
  if s.fault = 0 then s.faultReturn else s

/-- `Dispatch(s)` (R295). -/
def dispatch (p : Phase) (s : State) : State :=
  match p with
  | .init => stateInit s
  | .offsetMeas => stateOffsetMeas s
  | .wait1Cycle => stateWait1Cycle s
  | .ctrlRun => stateCtrlRun s
  | .fault => stateFault s

/-- One invocation past its gate: Latch, Estim, FaultTrip, Dispatch; a `STATUS.STATE` above 4 raises ILLEGAL and
changes nothing else (R293, R302). No step before the dispatch writes `STATUS.STATE`, so the phase is the one
read when the dispatch starts (R295). -/
def tickCommand (s : State) : State :=
  match Phase.ofCode s.status.state with
  | none => s.raiseIllegal
  | some p => dispatch p (faultTrip (estim s.latch))

/-- `ESTIM` (R291). -/
def execEstim (s : State) : Result := gated .g2 estim s

/-- `INIT` (R292). -/
def execInit (s : State) : Result := gated .g3 initCommand s

/-- `TICK` (R293). -/
def execTick (s : State) : Result := gated .g4 tickCommand s

end Sys2Proof.Machine
end

