-- ==== Sys2Proof/Machine/Dispatch.lean ====
section
/-! DEFINITION. What each command does: one direct call of its meaning. -/

namespace Sys2Proof.Machine

def exec (i : Instr) (s : State) : Host.Outcome State Fault Refusal :=
  match i with
  | .nop => Sys2Proof.Machine.execNop s
  -- fixed-point primitives
  | .sat16 => Sys2Proof.Machine.execSat16 s
  | .clamp => Sys2Proof.Machine.execClamp s
  | .mulq => Sys2Proof.Machine.execMulq s
  | .mulshr => Sys2Proof.Machine.execMulshr s
  | .divq => Sys2Proof.Machine.execDivq s
  | .divt => Sys2Proof.Machine.execDivt s
  | .acc => Sys2Proof.Machine.execAcc s
  | .shra => Sys2Proof.Machine.execShra s
  -- estimators
  | .mafUpdateDcavg => Sys2Proof.Machine.execMafUpdateDcavg s
  | .mafUpdateAcavg => Sys2Proof.Machine.execMafUpdateAcavg s
  | .mafResetDcavg => Sys2Proof.Machine.execMafResetDcavg s
  | .mafResetAcavg => Sys2Proof.Machine.execMafResetAcavg s
  | .rmsUpdate => Sys2Proof.Machine.execRmsUpdate s
  | .rmsReset => Sys2Proof.Machine.execRmsReset s
  | .rect => Sys2Proof.Machine.execRect s
  -- PI units
  | .piUpdatePiv => Sys2Proof.Machine.execPiUpdatePiv s
  | .piUpdatePic => Sys2Proof.Machine.execPiUpdatePic s
  | .piResetPiv => Sys2Proof.Machine.execPiResetPiv s
  | .piResetPic => Sys2Proof.Machine.execPiResetPic s
  -- control loop
  | .softstart => Sys2Proof.Machine.execSoftstart s
  | .vloop => Sys2Proof.Machine.execVloop s
  | .iref => Sys2Proof.Machine.execIref s
  | .boostd => Sys2Proof.Machine.execBoostd s
  | .icorr => Sys2Proof.Machine.execIcorr s
  | .iloop => Sys2Proof.Machine.execIloop s
  -- fault monitor
  | .faultTrip => Sys2Proof.Machine.execFaultTrip s
  | .faultRecover => Sys2Proof.Machine.execFaultRecover s
  -- sequencer
  | .estim => Sys2Proof.Machine.execEstim s
  | .init => Sys2Proof.Machine.execInit s
  | .tick => Sys2Proof.Machine.execTick s

end Sys2Proof.Machine
end

