-- ==== Sys2Proof/Machine/Port.lean ====
section
/-!
DEFINITION. What the block does with each event of its ordered port (20_memory.md R90): a command word, a bus
read or write, a trigger event, and the telemetry reader's read.
-/
namespace Sys2Proof.Machine

/-- A command word: a legal one runs its command, an illegal one "raises ILLEGAL and has no other effect"
(30_encoding.md R114, R115). -/
def portCommand (w : W16) (s : State) : Result :=
  match decode w with
  | .ok i => exec i s
  | .error _ => .next s.raiseIllegal

/-- The host's `BusRead`: the word goes back to the host, and no register changes (20_memory.md R81; log 7). -/
def portBusRead (a : Addr) (s : State) : Result :=
  .next { s with hostReads := s.hostReads ++ [busRead a s] }

/-- The host's `BusWrite` (20_memory.md R82). -/
def portBusWrite (a : Addr) (v : W16) (s : State) : Result := .next (busWrite a v s)

/-- A trigger event: TICK with its gate while `TRIGEN = 1`, lost while it is 0 (30_encoding.md R122). -/
def portTrig (s : State) : Result :=
  if s.ctrl.trigen then exec .tick s else .next s

/-- The telemetry reader's read: exact when it overlaps no TICK, any value when it does (20_memory.md R91; log 6). -/
def portTelemetryRead (a : Addr) (overlapsTick : Bool) (s : State) : Result :=
  if overlapsTick then
    .next { s with
      telemetryReads := s.telemetryReads ++ [Config.tornWord s.tornDraws]
      tornDraws := s.tornDraws + 1 }
  else
    .next { s with telemetryReads := s.telemetryReads ++ [busRead a s] }

/-- One event of the port. -/
def portEvent (e : PortEvent) (s : State) : Result :=
  match e with
  | .command w => portCommand w s
  | .busRead a => portBusRead a s
  | .busWrite a v => portBusWrite a v s
  | .trig => portTrig s
  | .telemetryRead a o => portTelemetryRead a o s

/-- Take the next event of the port, if one waits: "They take effect one at a time, in the order issued, and each
completes before the next begins" (20_memory.md R90). With none waiting the block "is idle, and it holds all
state" (60_exceptions.md R360; log 1). -/
def portStep (s : State) : Result :=
  match s.port with
  | [] => .next s
  | e :: rest => portEvent e { s with port := rest }

/-- Put an instruction word of `nbits` bits first at the port, as the host does when it issues it next (log 2). -/
def portPresent (nbits w : Nat) (s : State) : State :=
  { s with port := .command (BitVec.ofNat 16 (w % 2 ^ nbits)) :: s.port }

end Sys2Proof.Machine
end

