-- ==== Sys2Proof/Machine/Step.lean ====
section
/-!
DEFINITION. One step of the machine: the next event of the ordered port takes effect (20_memory.md R90), and where
a step fetches its next command word from.
-/
namespace Sys2Proof.Machine

/-- One step. -/
def step (s : State) : Host.Outcome State Fault Refusal := portStep s

/-- The state with a command word placed where the next step takes it: first at the port. The block "fetches no
instructions" (20_memory.md R94); "the host supplies each command word" (10_state.md R45). Log 2. -/
def State.withFetchWord (s : State) (nbits w : Nat) : State := portPresent nbits w s

end Sys2Proof.Machine
end

