-- ==== Sys2Proof/Machine/HostProgram.lean ====
section
/-!
DEFINITION. Host programs (30_encoding.md R120, R121) as abstract syntax: each statement expands to the events it
puts on the port, in order. The characters of the assembler text are not modelled (log 13).
-/
namespace Sys2Proof.Machine

/-- The mnemonics of the opcode map (30_encoding.md R113); a unit is named beside them. -/
inductive Mnemonic where
  | nop
  | sat16
  | clamp
  | mulq
  | mulshr
  | divq
  | divt
  | acc
  | shra
  | mafUpdate
  | mafReset
  | rmsUpdate
  | rmsReset
  | rect
  | piUpdate
  | piReset
  | softstart
  | vloop
  | iref
  | boostd
  | icorr
  | iloop
  | faultTrip
  | faultRecover
  | estim
  | init
  | tick
deriving DecidableEq, Repr

/-- The OP column of R113. -/
def Mnemonic.op : Mnemonic → BitVec 8
  | .nop => 0x00
  | .sat16 => 0x01
  | .clamp => 0x02
  | .mulq => 0x03
  | .mulshr => 0x04
  | .divq => 0x05
  | .divt => 0x06
  | .acc => 0x07
  | .shra => 0x08
  | .mafUpdate => 0x10
  | .mafReset => 0x11
  | .rmsUpdate => 0x12
  | .rmsReset => 0x13
  | .rect => 0x14
  | .piUpdate => 0x20
  | .piReset => 0x21
  | .softstart => 0x30
  | .vloop => 0x31
  | .iref => 0x32
  | .boostd => 0x33
  | .icorr => 0x34
  | .iloop => 0x35
  | .faultTrip => 0x40
  | .faultRecover => 0x41
  | .estim => 0x50
  | .init => 0x51
  | .tick => 0x52

/-- The unit names of the syntax (R120). -/
inductive UnitName where
  | dcavg
  | acavg
  | rms
  | piv
  | pic
deriving DecidableEq, Repr

/-- UNIT codes (R111); "a mnemonic with no unit has UNIT 0" (R120). -/
def unitCode : Option UnitName → BitVec 4
  | none => unitNone
  | some .dcavg => unitDcavg
  | some .acavg => unitAcavg
  | some .rms => unitRms
  | some .piv => unitPiv
  | some .pic => unitPic

/-- The 32-bit registers, by name (10_state.md R51). -/
inductive Wide where
  | opa
  | opb
  | opc
  | res
  | dcavgSum
  | acavgSum
  | rmsSum
  | pivInt
  | picInt
  | awCeil
deriving DecidableEq, Repr

/-- The LO word of a 32-bit register, at the even address (20_memory.md R84). -/
def Wide.lo : Wide → Reg
  | .opa => .opaLo
  | .opb => .opbLo
  | .opc => .opcLo
  | .res => .resLo
  | .dcavgSum => .dcavgSumLo
  | .acavgSum => .acavgSumLo
  | .rmsSum => .rmsSumLo
  | .pivInt => .pivIntLo
  | .picInt => .picIntLo
  | .awCeil => .awCeilLo

/-- The HI word of a 32-bit register, at the next address (20_memory.md R84). -/
def Wide.hi : Wide → Reg
  | .opa => .opaHi
  | .opb => .opbHi
  | .opc => .opcHi
  | .res => .resHi
  | .dcavgSum => .dcavgSumHi
  | .acavgSum => .acavgSumHi
  | .rmsSum => .rmsSumHi
  | .pivInt => .pivIntHi
  | .picInt => .picIntHi
  | .awCeil => .awCeilHi

/-- The value of a 32-bit register. -/
def Wide.get (s : State) : Wide → W32
  | .opa => s.operands.a
  | .opb => s.operands.b
  | .opc => s.operands.c
  | .res => s.operands.res
  | .dcavgSum => s.dcavg.sum
  | .acavgSum => s.acavg.sum
  | .rmsSum => s.rms.sum
  | .pivInt => s.piv.integ
  | .picInt => s.pic.integ
  | .awCeil => s.cfg.awCeil

/-- How a statement names the word it accesses (R120). -/
inductive RegRef where
  /-- a 16-bit register, or `name.LO`, or `name.HI` -/
  | word (r : Reg)
  /-- the bare name of a 32-bit register: its LO word (R120 says so of `WR`; of `RD`, log 13) -/
  | wide (w : Wide)
  /-- an address -/
  | addr (a : Addr)
deriving DecidableEq, Repr

def RegRef.toAddr : RegRef → Addr
  | .word r => r.addr
  | .wide w => w.lo.addr
  | .addr a => a

/-- The statements of R120 and the pseudo-instructions of R121. A value is an integer; `q15 f` is the value
`Q15(f)`. -/
inductive Stmt where
  | wr (r : RegRef) (v : Int)
  | rd (r : RegRef) (expected : Option W16)
  | op (m : Mnemonic) (u : Option UnitName)
  | cmd (v : Int)
  | trig
  | wr32 (w : Wide) (v : Int)
  | rd32 (w : Wide)
  | lda (v : Int)
  | ldb (v : Int)
  | ldc (v : Int)
  | sample (vdc vac il : Int)
  | ticks (n : Nat)
  | step (vdc vac il : Int)
deriving DecidableEq, Repr

/-- A bus write of a 16-bit value: "its 16-bit two's-complement word" (R120). -/
def eventWr (a : Addr) (v : Int) : PortEvent := .busWrite a (BitVec.ofInt 16 v)

/-- `WR32 reg, v`: the LO word, then the HI word (R121). -/
def eventsWr32 (w : Wide) (v : Int) : List PortEvent :=
  [eventWr w.lo.addr v, eventWr w.hi.addr (shra v 16)]

/-- `SAMPLE vdc, vac, il` (R121). -/
def eventsSample (vdc vac il : Int) : List PortEvent :=
  [eventWr (Reg.addr .vdcS) vdc, eventWr (Reg.addr .vacS) vac, eventWr (Reg.addr .ilS) il]

/-- The command word of a mnemonic with or without a unit: `{UNIT, 0000, OP}` (R120). -/
def eventOp (m : Mnemonic) (u : Option UnitName) : PortEvent :=
  .command (WordFields.word { unit := unitCode u, rsv := 0, op := m.op })

/-- The events a statement puts on the port, in order (R120, R121). -/
def Stmt.events : Stmt → List PortEvent
  | .wr r v => [eventWr r.toAddr v]
  | .rd r _ => [.busRead r.toAddr]
  | .op m u => [eventOp m u]
  | .cmd v => [.command (BitVec.ofInt 16 v)]
  | .trig => [.trig]
  | .wr32 w v => eventsWr32 w v
  | .rd32 w => [.busRead w.lo.addr, .busRead w.hi.addr]
  | .lda v => eventsWr32 .opa v
  | .ldb v => eventsWr32 .opb v
  | .ldc v => eventsWr32 .opc v
  | .sample vdc vac il => eventsSample vdc vac il
  | .ticks n => List.replicate n (eventOp .tick none)
  | .step vdc vac il => eventsSample vdc vac il ++ [eventOp .tick none]

/-- A program's events: "Statements execute one at a time, in order" (R120). -/
def assemble (prog : List Stmt) : List PortEvent := prog.flatMap Stmt.events

/-- What each read of a program is stated to give, where it states one (R120's `-> value`). -/
def expectedReads (prog : List Stmt) : List (Option W16) :=
  prog.flatMap fun
    | .rd _ e => [e]
    | .rd32 _ => [none, none]
    | _ => []

/-- The reads a host received meet what its program states. -/
def readsMeet : List (Option W16) → List W16 → Bool
  | [], [] => true
  | none :: es, _ :: ws => readsMeet es ws
  | some e :: es, w :: ws => e == w && readsMeet es ws
  | _, _ => false

/-- The host issues a program: its events wait at the port behind those already there. -/
def State.issue (prog : List Stmt) (s : State) : State := { s with port := s.port ++ assemble prog }

end Sys2Proof.Machine
end

