-- ==== Sys2Proof/Safety.lean ====
section
/-!
DEFINITION. What counts as a safe run, in the terms the statements use: the invariants the spec states of the
block, small helpers to say which command, gate or event a statement is about, and the spec's rules written as
relations between a state and the next: integers, quotients and remainders, none of the meanings' own functions. An
algorithm without a formula is given by agreement with the command that runs it (`AgreesWithPiUpdate`).
-/
namespace Sys2Proof.Machine

/-- No refusal went unnoticed: "A claim about a run takes `STATUS.ILLEGAL = 0` at the end as a premise"
(70_reset_and_hazards.md R389). -/
abbrev State.unrefused (s : State) : Prop := s.status.illegal = false

/-- `STATUS.STATE` is in 0..4 (10_state.md R49, 45_sequencer.md R302). -/
abbrev State.phaseLegal (s : State) : Prop := s.status.state.toNat ≤ 4

/-- "The block therefore never runs on a configuration the INIT check has not seen" (70_reset_and_hazards.md R381). -/
abbrev State.configChecked (s : State) : Prop := s.status.configured = true → s.cfg.legal = true

/-- The duty law (43_control.md R240): `DUTY = 0` or `DUTY_MIN <= DUTY <= DUTY_MAX`. -/
abbrev State.dutyLegal (s : State) : Prop :=
  s.duty = 0 ∨ (s.cfg.dutyMin.toNat ≤ s.duty.toNat ∧ s.duty.toNat ≤ s.cfg.dutyMax.toNat)

/-- The bounds of a moving-average unit between calls (10_state.md R49, 41_estimators.md R173). -/
abbrev MafUnit.bounded (n : W16) (m : MafUnit) : Prop :=
  m.cnt.toNat < n.toNat ∧ m.sum.toInt.natAbs ≤ m.cnt.toNat * 32768

/-- The bounds of the RMS unit between calls (10_state.md R49, 41_estimators.md R178). -/
abbrev RmsUnit.bounded (n : W16) (r : RmsUnit) : Prop :=
  r.cnt.toNat < n.toNat ∧ 0 ≤ r.sum.toInt ∧ r.sum.toInt ≤ r.cnt.toNat * 32767 ∧ 0 ≤ r.out.toInt

/-- The output of a PI unit: still the 0 of its reset, or inside its clamps (10_state.md R49). -/
abbrev PiUnit.bounded (c : PiCfg) (u : PiUnit) : Prop :=
  u.out = 0 ∨ (c.min.toInt ≤ u.out.toInt ∧ u.out.toInt ≤ c.max.toInt)

/-- The invariants of 10_state.md R49, as a property of one state. -/
abbrev State.bounded (s : State) : Prop :=
  s.dcavg.bounded s.cfg.dcavgN ∧ s.acavg.bounded s.cfg.acavgN ∧ s.rms.bounded s.cfg.rmsN
    ∧ s.phaseLegal
    ∧ (0 ≤ s.scal.iref.toInt ∧ s.scal.iref.toInt ≤ 32735)
    ∧ s.scal.vlCnt.toNat ≤ s.cfg.vlDiv.toNat
    ∧ s.dutyLegal
    ∧ s.piv.bounded s.cfg.piv ∧ s.pic.bounded s.cfg.pic

/-- What every step keeps of R49: while configured, the configuration is a checked one and the bounds hold. -/
abbrev State.runInvariant (s : State) : Prop := s.status.configured = true → s.cfg.legal = true ∧ s.bounded

/-- A host write of a class D register, the debug access R49 excludes; while `TRIGEN = 1` it is refused
(20_memory.md R82), and only with the trigger masked does it write. -/
def PortEvent.isDebugWrite : PortEvent → Bool
  | .busWrite a _ => classOf a == .d
  | _ => false

/-- The last switching-output command among the calls: `some true` for enableOutputs. -/
def lastSwitch (calls : List Call) : Option Bool :=
  calls.foldl (fun acc c =>
    match c with
    | .enableOutputs => some true
    | .disableOutputs => some false
    | .calStart => acc
    | .calUpdate => acc) none

/-- `STATUS.OUTEN` is the last switching-output command: "1 after `enableOutputs`, 0 after `disableOutputs`"
(10_state.md R32), and 0 at power-on. -/
abbrev State.outenMirrors (s : State) : Prop := s.status.outen = (lastSwitch s.calls).getD false

/-- The "gate" column of the opcode map (30_encoding.md R113, R116). -/
def gateOf : Instr → Gate
  | .nop => .g0
  | .sat16 => .g1
  | .clamp => .g1
  | .mulq => .g1
  | .mulshr => .g1
  | .divq => .g1
  | .divt => .g1
  | .acc => .g1
  | .shra => .g1
  | .rect => .g1
  | .mafUpdateDcavg => .g2
  | .mafUpdateAcavg => .g2
  | .mafResetDcavg => .g2
  | .mafResetAcavg => .g2
  | .rmsUpdate => .g2
  | .rmsReset => .g2
  | .piUpdatePiv => .g2
  | .piUpdatePic => .g2
  | .piResetPiv => .g2
  | .piResetPic => .g2
  | .softstart => .g2
  | .vloop => .g2
  | .iref => .g2
  | .boostd => .g2
  | .icorr => .g2
  | .iloop => .g2
  | .faultTrip => .g2
  | .faultRecover => .g2
  | .estim => .g2
  | .init => .g3
  | .tick => .g4

/-- The "condition" column of R116, of the two bits it reads. -/
def gateCondition (g : Gate) (trigen configured : Bool) : Bool :=
  match g with
  | .g0 => true
  | .g1 => trigen == false
  | .g2 => trigen == false && configured == true
  | .g3 => trigen == false
  | .g4 => configured == true

/-- Debug commands are allowed and the configuration has passed its check: gate G2 (30_encoding.md R116). -/
abbrev State.debugReady (s : State) : Prop := s.ctrl.trigen = false ∧ s.status.configured = true

/-- The command that updates a moving-average unit, and the one that resets it (30_encoding.md R113). -/
def MafSel.update : MafSel → Instr
  | .dcavg => .mafUpdateDcavg
  | .acavg => .mafUpdateAcavg

def MafSel.reset : MafSel → Instr
  | .dcavg => .mafResetDcavg
  | .acavg => .mafResetAcavg

/-- The ready flag of a moving-average unit (10_state.md R47). -/
def State.mafReady (u : MafSel) (s : State) : Bool :=
  match u with
  | .dcavg => s.status.dcrdy
  | .acavg => s.status.acrdy

/-- The command that updates a PI unit, and the one that resets it (30_encoding.md R113). -/
def PiSel.update : PiSel → Instr
  | .piv => .piUpdatePiv
  | .pic => .piUpdatePic

def PiSel.reset : PiSel → Instr
  | .piv => .piResetPiv
  | .pic => .piResetPic

/-- Issue one command once per operand, each with `OPA` set to the operand, as the vectors of
95_test_vectors.md do. -/
def feed (i : Instr) : List W32 → State → Result
  | [], s => .next s
  | x :: xs, s =>
    match exec i { s with operands := { s.operands with a := x } } with
    | .next t => feed i xs t
    | .fault r => .fault r
    | .refused r => .refused r

/-- Bits 15:0 of an operand register, read as int16 (30_encoding.md R112). -/
def low16Signed (r : W32) : Int := (r.toNat : Int).bmod 65536

/-- Bits 15:0 of an operand register, read as uint16 (30_encoding.md R112). -/
def low16Unsigned (r : W32) : Int := (r.toNat : Int) % 65536

/-! ## The rules as relations -/

/-- `exec i s` is a refusal: the sticky mark and no other change (60_exceptions.md R335). -/
def Refuses (i : Instr) (s : State) : Prop :=
  exec i s = .next { s with status := { s.status with illegal := true } }

/-- What a rule of 40_fixed_point.md says of its command (R140), and R179 of RECT: its word; refused while
`TRIGEN = 1`; else RES takes the value as an int32, or stays where the rule gives none, and nothing else changes. -/
def PrimitiveRule (i : Instr) (w : W16) (s : State) (value : Option Int) : Prop :=
  decode w = .ok i
    ∧ (s.ctrl.trigen = true → Refuses i s)
    ∧ (s.ctrl.trigen = false →
        match value with
        | none => exec i s = .next s
        | some v => ∃ r : W32, r.toInt = v ∧ exec i s = .next { s with operands := { s.operands with res := r } })

/-- What every rule under gate G2 says of its command: its word, and the refusal when the gate fails (30_encoding.md
R116). -/
def DebugCommand (i : Instr) (w : W16) (s : State) : Prop :=
  decode w = .ok i ∧ (¬ s.debugReady → Refuses i s)

/-- R171: the unit and its ready flag before and after the sample x, with window length n. -/
def MafRule (n : W16) (x : Int) (m m' : MafUnit) (rdy rdy' : Bool) : Prop :=
  let sum := (m.sum.toInt + x).bmod (2 ^ 32)
  let cnt := (m.cnt.toNat + 1) % 65536
  if cnt = n.toNat then
    m'.out.toInt = (sum.tdiv n.toNat).bmod 65536 ∧ rdy' = true ∧ m'.sum = 0 ∧ m'.cnt = 0
  else
    m'.sum.toInt = sum ∧ m'.cnt.toNat = cnt ∧ m'.out = m.out ∧ rdy' = rdy

/-- R176: `min((x * x) >>a RMS_SQ_SHIFT, 32767)`, the shift as a floored quotient. -/
def squaredTerm (shift : Nat) (x : Int) : Int := min (x * x / 2 ^ shift) 32767

/-- R175 and R176: the unit and its ready flag before and after the magnitude x. -/
def RmsRule (n : W16) (shift : Nat) (x : Int) (r r' : RmsUnit) (rdy rdy' : Bool) : Prop :=
  let sum := (r.sum.toInt + squaredTerm shift x).bmod (2 ^ 32)
  let cnt := (r.cnt.toNat + 1) % 65536
  (r'.peak.toNat : Int) = max (r.peak.toNat : Int) x
    ∧ if cnt = n.toNat then
        r'.out.toInt = (sum.tdiv n.toNat).bmod 65536 ∧ rdy' = true ∧ r'.sum = 0 ∧ r'.cnt = 0
      else
        r'.sum.toInt = sum ∧ r'.cnt.toNat = cnt ∧ r'.out = r.out ∧ rdy' = rdy

/-- R203 law 4, as agreement with the PI_UPDATE command: the new integrator and output are those the command gives, of
either unit and in any state under the same parameter, on the same old integrator, error, gain and configuration. -/
def AgreesWithPiUpdate (alg : PiAlgorithm) (c : PiCfg) (e ki : Int) (u u' : PiUnit) : Prop :=
  ∀ (p : PiSel) (r : State), r.debugReady → r.params.piUpdate = alg →
    (r.pi p).integ = u.integ → low16Signed r.operands.a = e → (r.piCfg p).ki.toInt = ki →
    r.piCfg p = { c with ki := (r.piCfg p).ki } →
    ∃ err, exec p.update r = .next (r.setPi p { ref := (r.pi p).ref, err := err, integ := u'.integ, out := u'.out })

/-- R202 to R204: the unit before and after an update with error e and effective gain ki. The default algorithm is
given exactly; any other by laws 1 to 4 of R203 (law 5, the widths, is the registers' types): the values are those of
`PI_UPDATE` on equal arguments, and the output is in its clamps. -/
def PiRule (alg : PiAlgorithm) (c : PiCfg) (e ki : Int) (u u' : PiUnit) : Prop :=
  u'.ref = u.ref ∧ u'.err.toInt = e
    ∧ match alg with
      | .default =>
        u'.integ.toInt = max c.min.toInt (min (u.integ.toInt + ki * e / 2 ^ c.kis.toNat) c.max.toInt)
          ∧ u'.out.toInt =
              max c.min.toInt (min (c.kp.toInt * e / 2 ^ c.kps.toNat + u'.integ.toInt) c.max.toInt)
      | .anyLawful =>
        AgreesWithPiUpdate .anyLawful c e ki u u'
          ∧ (c.min.toInt ≤ c.max.toInt → c.min.toInt ≤ u'.out.toInt ∧ u'.out.toInt ≤ c.max.toInt)

/-- R231. -/
def SoftStartRule (s t : State) : Prop :=
  if s.piv.ref.toInt < s.cfg.vrefFinal.toInt then
    if 1 < s.scal.ssCnt.toNat then
      ∃ c : W16, c.toNat = s.scal.ssCnt.toNat - 1 ∧ t = { s with scal := { s.scal with ssCnt := c } }
    else
      ∃ r : W16, r.toInt = min (s.piv.ref.toInt + s.cfg.ssStep.toInt) s.cfg.vrefFinal.toInt
        ∧ t = { s with
            scal := { s.scal with ssCnt := s.cfg.ssPeriod }
            piv := { s.piv with ref := r } }
  else t = s

/-- `sat16` (00_scope.md R14). -/
def saturated (v : Int) : Int := max (-32768) (min 32767 v)

/-- R232, with the gain schedule of R233. -/
def VLoopRule (s t : State) : Prop :=
  let cnt := (s.scal.vlCnt.toNat + 1) % 65536
  if s.cfg.vlDiv.toNat < cnt then
    let e := saturated (s.piv.ref.toInt - s.dcavg.out.toInt)
    let ki := if 700 < e.natAbs then s.cfg.piv.ki.toInt / 2 else s.cfg.piv.ki.toInt
    ∃ u, PiRule s.params.piUpdate s.cfg.piv e ki s.piv u
      ∧ t = { s with scal := { s.scal with vlCnt := 0 }, piv := u }
  else
    ∃ c : W16, c.toNat = cnt ∧ t = { s with scal := { s.scal with vlCnt := c } }

/-- The current reference before its clamp (R234). -/
def shapedReference (s : State) : Int :=
  let product := s.piv.out.toInt * s.snap.rect.toNat
  if s.ctrl.pbalEn then
    let t := product / 2 ^ 18
    let t := if 0 < s.rms.out.toInt then t.tdiv s.rms.out.toInt else t
    t * s.cfg.shapeK.toInt / 2 ^ 12
  else product / 2 ^ 15

/-- R234. -/
def IRefRule (s t : State) : Prop :=
  ∃ r : W16, r.toInt = max 0 (min (shapedReference s) 32735) ∧ t = { s with scal := { s.scal with iref := r } }

/-- R235. -/
def BoostDRule (s t : State) : Prop :=
  if 0 < s.snap.vdc.toInt then
    ∃ b : W16, b.toInt = saturated (((s.snap.vdc.toInt - s.snap.rect.toNat) * 32768).tdiv s.snap.vdc.toInt)
      ∧ t = { s with scal := { s.scal with boostd := b } }
  else t = s

/-- R236. -/
def ICorrRule (s t : State) : Prop :=
  if s.ctrl.ocorrEn then
    ∃ i : W16, i.toInt = saturated (s.snap.il.toInt - s.snap.ilOffset.toInt)
      ∧ t = { s with snap := { s.snap with il := i } }
  else t = s

/-- R237 to R239: the clamped current, the average, the PI update, the duty, the anti-windup forcing and the standby
override, which comes last. -/
def ILoopRule (s t : State) : Prop :=
  ∃ (il iavg duty : W16) (u : PiUnit),
    il.toInt = max s.snap.il.toInt 1
    ∧ iavg.toInt =
        (if s.ctrl.dcmEn = true ∧ 0 < s.scal.boostd.toInt then
          saturated ((s.pic.out.toInt * 32768).tdiv s.scal.boostd.toInt) * il.toInt / 2 ^ 15
        else il.toInt)
    ∧ PiRule s.params.piUpdate s.cfg.pic (saturated (s.scal.iref.toInt - iavg.toInt)) s.cfg.pic.ki.toInt
        { s.pic with ref := s.scal.iref } u
    ∧ (duty.toNat : Int) =
        max (s.cfg.dutyMin.toNat : Int) (min (u.out.toInt * s.cfg.period.toNat / 2 ^ 15) s.cfg.dutyMax.toNat)
    ∧ t =
        (if s.piv.out.toInt < s.cfg.voutMinpk.toInt then
          { s with
            snap := { s.snap with il := il }
            scal := { s.scal with iavg := iavg }
            pic := { u with integ := 0 }
            duty := 0 }
        else
          { s with
            snap := { s.snap with il := il }
            scal := { s.scal with iavg := iavg }
            pic := { u with integ := if duty = s.cfg.dutyMax then s.cfg.awCeil else u.integ }
            duty := duty })

/-- R271 and R272: the mask before and after the trip comparisons. OR sets bits; ADD adds their weights modulo 2^16. -/
def TripRule (s : State) (mask : W16) : Prop :=
  let outOv := decide (s.cfg.dcOvLim.toInt ≤ s.dcavg.out.toInt)
  let inUv := decide (s.rms.out.toInt < s.cfg.acUvLim.toInt)
  let inOv := decide (s.cfg.acOvLim.toInt ≤ s.rms.out.toInt)
  match s.params.faultSetMode with
  | .or =>
    mask.getLsbD 0 = (s.fault.getLsbD 0 || outOv) ∧ mask.getLsbD 1 = (s.fault.getLsbD 1 || inUv)
      ∧ mask.getLsbD 2 = (s.fault.getLsbD 2 || inOv) ∧ ∀ k, 3 ≤ k → mask.getLsbD k = s.fault.getLsbD k
  | .add =>
    mask.toNat = (s.fault.toNat + outOv.toNat + 2 * inUv.toNat + 4 * inOv.toNat) % 65536

/-- R273: the mask before and after the recovery comparisons. -/
def RecoverRule (s : State) (mask : W16) : Prop :=
  mask.getLsbD 0 = (s.fault.getLsbD 0 && !decide (s.dcavg.out.toInt < s.cfg.dcOvRec.toInt))
    ∧ mask.getLsbD 1 = (s.fault.getLsbD 1 && !decide (s.cfg.acUvRec.toInt < s.rms.out.toInt))
    ∧ mask.getLsbD 2 = (s.fault.getLsbD 2 && !decide (s.rms.out.toInt < s.cfg.acOvRec.toInt))
    ∧ ∀ k, 3 ≤ k → mask.getLsbD k = s.fault.getLsbD k

/-- R291. -/
def EstimRule (s t : State) : Prop :=
  ∃ (dc ac : MafUnit) (rms : RmsUnit) (dcrdy acrdy rmsrdy : Bool) (rect : W16),
    MafRule s.cfg.dcavgN s.snap.vdc.toInt s.dcavg dc s.status.dcrdy dcrdy
    ∧ MafRule s.cfg.acavgN s.snap.vac.toInt s.acavg ac s.status.acrdy acrdy
    ∧ rect.toNat = (s.snap.vac.toInt - ac.out.toInt).natAbs
    ∧ RmsRule s.cfg.rmsN s.params.rmsSqShift.val rect.toNat s.rms rms s.status.rmsrdy rmsrdy
    ∧ t = { s with
        dcavg := dc
        acavg := ac
        rms := rms
        snap := { s.snap with vacOffset := ac.out, rect := rect }
        status := { s.status with dcrdy := dcrdy, acrdy := acrdy, rmsrdy := rmsrdy } }

/-- What every TICK does before its state handler: Latch (R294), ESTIM (R291), FAULT_TRIP (R272), in the order of
R293. -/
def MeasureRule (s t : State) : Prop :=
  ∃ (e : State) (mask : W16),
    EstimRule { s with snap := { s.snap with vdc := s.samples.vdc, vac := s.samples.vac, il := s.samples.il } } e
    ∧ TripRule e mask
    ∧ t = { e with fault := mask }

/-- A TICK is taken in the state with code k: gate G4 holds and the configuration is a checked one. -/
abbrev State.tickReady (s : State) (k : Nat) : Prop :=
  s.status.configured = true ∧ s.cfg.legal = true ∧ s.status.state.toNat = k

/-- The legal ranges of R296, as its table writes them. -/
def LegalRanges (c : Cfg) : Prop :=
  (1 ≤ c.dcavgN.toNat ∧ 1 ≤ c.acavgN.toNat ∧ 1 ≤ c.rmsN.toNat)
    ∧ (0 ≤ c.piv.kp.toInt ∧ 0 ≤ c.piv.ki.toInt ∧ 0 ≤ c.pic.kp.toInt ∧ 0 ≤ c.pic.ki.toInt)
    ∧ (c.piv.kps.toNat ≤ 31 ∧ c.piv.kis.toNat ≤ 31 ∧ c.pic.kps.toNat ≤ 31 ∧ c.pic.kis.toNat ≤ 31)
    ∧ (c.piv.min.toInt ≤ c.piv.max.toInt ∧ c.pic.min.toInt ≤ c.pic.max.toInt)
    ∧ c.dutyMin.toNat ≤ c.dutyMax.toNat
    ∧ 1 ≤ c.ssPeriod.toNat
    ∧ 0 ≤ c.ssStep.toInt
    ∧ c.vlDiv.toNat ≤ 65534

/-- The register map R51: every word address that is not reserved, with the class of its register. -/
def classByMap (a : Nat) : Class :=
  if a = 0x00 then .k
  else if a = 0x01 then .s
  else if a = 0x02 ∨ a = 0x03 then .d
  else if 0x08 ≤ a ∧ a ≤ 0x0A then .i
  else if 0x0C ≤ a ∧ a ≤ 0x13 then .d
  else if 0x18 ≤ a ∧ a ≤ 0x1D then .d
  else if 0x20 ≤ a ∧ a ≤ 0x2C then .d
  else if 0x30 ≤ a ∧ a ≤ 0x34 then .d
  else if 0x38 ≤ a ∧ a ≤ 0x3C then .d
  else if 0x40 ≤ a ∧ a ≤ 0x44 then .d
  else if 0x50 ≤ a ∧ a ≤ 0x5E then .c
  else if 0x60 ≤ a ∧ a ≤ 0x64 then .c
  else if 0x66 ≤ a ∧ a ≤ 0x71 then .c
  else .r

/-- The two words of a 32-bit register (20_memory.md R84). -/
def loWord (r : W32) : W16 := BitVec.ofNat 16 (r.toNat % 65536)
def hiWord (r : W32) : W16 := BitVec.ofNat 16 (r.toNat / 65536)

/-- The word of CTRL (10_state.md R33). -/
def ctrlWord (c : Ctrl) : W16 :=
  BitVec.ofNat 16 (c.trigen.toNat + 2 * c.ocorrEn.toNat + 4 * c.pbalEn.toNat + 8 * c.dcmEn.toNat)

/-- The word of STATUS (10_state.md R32). -/
def statusWord (t : Status) : W16 :=
  BitVec.ofNat 16
    (t.state.toNat + 8 * t.outen.toNat + 16 * t.calrdy.toNat + 32 * t.dcrdy.toNat + 64 * t.acrdy.toNat
      + 128 * t.rmsrdy.toNat + 256 * t.configured.toNat + 512 * t.cfgerr.toNat + 1024 * t.illegal.toNat)

/-- The content of the register map R51, address by address; an address not listed is reserved. -/
def registerWords (s : State) : List (Nat × W16) :=
  [(0x00, ctrlWord s.ctrl), (0x01, statusWord s.status), (0x02, s.fault), (0x03, s.duty)]
  ++ [(0x08, s.samples.vdc), (0x09, s.samples.vac), (0x0A, s.samples.il)]
  ++ [(0x0C, loWord s.operands.a), (0x0D, hiWord s.operands.a), (0x0E, loWord s.operands.b), (0x0F, hiWord s.operands.b)]
  ++ [(0x10, loWord s.operands.c), (0x11, hiWord s.operands.c), (0x12, loWord s.operands.res),
      (0x13, hiWord s.operands.res)]
  ++ [(0x18, s.snap.vdc), (0x19, s.snap.vac), (0x1A, s.snap.vacOffset), (0x1B, s.snap.rect), (0x1C, s.snap.il),
      (0x1D, s.snap.ilOffset)]
  ++ [(0x20, loWord s.dcavg.sum), (0x21, hiWord s.dcavg.sum), (0x22, s.dcavg.cnt), (0x23, s.dcavg.out)]
  ++ [(0x24, loWord s.acavg.sum), (0x25, hiWord s.acavg.sum), (0x26, s.acavg.cnt), (0x27, s.acavg.out)]
  ++ [(0x28, loWord s.rms.sum), (0x29, hiWord s.rms.sum), (0x2A, s.rms.cnt), (0x2B, s.rms.out), (0x2C, s.rms.peak)]
  ++ [(0x30, s.piv.ref), (0x31, s.piv.err), (0x32, loWord s.piv.integ), (0x33, hiWord s.piv.integ), (0x34, s.piv.out)]
  ++ [(0x38, s.pic.ref), (0x39, s.pic.err), (0x3A, loWord s.pic.integ), (0x3B, hiWord s.pic.integ), (0x3C, s.pic.out)]
  ++ [(0x40, s.scal.ssCnt), (0x41, s.scal.vlCnt), (0x42, s.scal.boostd), (0x43, s.scal.iref), (0x44, s.scal.iavg)]
  ++ [(0x50, s.cfg.dcavgN), (0x51, s.cfg.acavgN), (0x52, s.cfg.rmsN)]
  ++ [(0x53, s.cfg.piv.kp), (0x54, s.cfg.piv.kps), (0x55, s.cfg.piv.ki), (0x56, s.cfg.piv.kis), (0x57, s.cfg.piv.min),
      (0x58, s.cfg.piv.max)]
  ++ [(0x59, s.cfg.pic.kp), (0x5A, s.cfg.pic.kps), (0x5B, s.cfg.pic.ki), (0x5C, s.cfg.pic.kis), (0x5D, s.cfg.pic.min),
      (0x5E, s.cfg.pic.max)]
  ++ [(0x60, s.cfg.vlDiv), (0x61, s.cfg.shapeK), (0x62, s.cfg.period), (0x63, s.cfg.dutyMin), (0x64, s.cfg.dutyMax)]
  ++ [(0x66, loWord s.cfg.awCeil), (0x67, hiWord s.cfg.awCeil), (0x68, s.cfg.voutMinpk), (0x69, s.cfg.ssStep),
      (0x6A, s.cfg.ssPeriod), (0x6B, s.cfg.vrefFinal)]
  ++ [(0x6C, s.cfg.dcOvLim), (0x6D, s.cfg.dcOvRec), (0x6E, s.cfg.acUvLim), (0x6F, s.cfg.acUvRec),
      (0x70, s.cfg.acOvLim), (0x71, s.cfg.acOvRec)]

/-- The two states agree on everything that is no register of the map: the parameters, the port, the calibration unit's
answers, the calls and the words read. -/
def SameOutside (s t : State) : Prop :=
  t.params = s.params ∧ t.port = s.port ∧ t.calAnswers = s.calAnswers ∧ t.calDraws = s.calDraws
    ∧ t.tornDraws = s.tornDraws ∧ t.calls = s.calls ∧ t.hostReads = s.hostReads ∧ t.telemetryReads = s.telemetryReads

/-- The word addresses a command may write, by its rule; STATUS (0x01) stands in every list, for its flags and the
refusal mark. -/
def writeSet : Instr → List Nat
  | .nop => [0x01]
  | .sat16 => [0x01, 0x12, 0x13]
  | .clamp => [0x01, 0x12, 0x13]
  | .mulq => [0x01, 0x12, 0x13]
  | .mulshr => [0x01, 0x12, 0x13]
  | .divq => [0x01, 0x12, 0x13]
  | .divt => [0x01, 0x12, 0x13]
  | .acc => [0x01, 0x12, 0x13]
  | .shra => [0x01, 0x12, 0x13]
  | .rect => [0x01, 0x12, 0x13]
  | .mafUpdateDcavg => [0x01, 0x20, 0x21, 0x22, 0x23]
  | .mafResetDcavg => [0x01, 0x20, 0x21, 0x22, 0x23]
  | .mafUpdateAcavg => [0x01, 0x24, 0x25, 0x26, 0x27]
  | .mafResetAcavg => [0x01, 0x24, 0x25, 0x26, 0x27]
  | .rmsUpdate => [0x01, 0x28, 0x29, 0x2A, 0x2B, 0x2C]
  | .rmsReset => [0x01, 0x28, 0x29, 0x2A, 0x2B, 0x2C]
  | .piUpdatePiv => [0x01, 0x31, 0x32, 0x33, 0x34]
  | .piUpdatePic => [0x01, 0x39, 0x3A, 0x3B, 0x3C]
  | .piResetPiv => [0x01, 0x32, 0x33]
  | .piResetPic => [0x01, 0x3A, 0x3B]
  | .softstart => [0x01, 0x30, 0x40]
  | .vloop => [0x01, 0x31, 0x32, 0x33, 0x34, 0x41]
  | .iref => [0x01, 0x43]
  | .boostd => [0x01, 0x42]
  | .icorr => [0x01, 0x1C]
  | .iloop => [0x01, 0x03, 0x1C, 0x38, 0x39, 0x3A, 0x3B, 0x3C, 0x44]
  | .faultTrip => [0x01, 0x02]
  | .faultRecover => [0x01, 0x02]
  | .estim => [0x01, 0x1A, 0x1B] ++ List.range' 0x20 13
  | .init => [0x01, 0x02, 0x03] ++ List.range' 0x18 45
  | .tick => [0x01, 0x02, 0x03] ++ List.range' 0x18 45

end Sys2Proof.Machine
end

