-- ==== Sys2Proof/Certificates/Slice0/Obligations.lean ====
section
/-!
DEFINITION. The statements for the provers. Each docstring names the rules it formalises. Where a statement's premise is
`configChecked` (a configuration that counts as checked is a legal one), that premise is an invariant of the block,
stated below as `EveryStepKeepsConfigurationCheckedAndPhaseLegal`.
-/
open Sys2Proof Sys2Proof.Machine

/-! ## Encoding -/

/-- 30_encoding.md R113, R114: a word decodes to a command exactly when it is that command's word. -/
def Obligations.DecodeIsTheInverseOfEncode : Prop :=
  ∀ (w : W16) (i : Instr), decode w = .ok i ↔ w = encode i

/-- 30_encoding.md R114: legality is the OP being listed, RSV being 0 and UNIT being listed for the OP. -/
def Obligations.LegalWordsAreTheOpcodeMap : Prop :=
  ∀ w : W16,
    (∃ i, decode w = .ok i) ↔
      (w.toNat / 256 % 16 = 0
        ∧ ∃ units : List Nat, w.toNat / 4096 ∈ units ∧ (w.toNat % 256, units) ∈
          [(0x00, [0]), (0x01, [0]), (0x02, [0]), (0x03, [0]), (0x04, [0]), (0x05, [0]), (0x06, [0]), (0x07, [0]),
           (0x08, [0]), (0x10, [1, 2]), (0x11, [1, 2]), (0x12, [3]), (0x13, [3]), (0x14, [0]), (0x20, [4, 5]),
           (0x21, [4, 5]), (0x30, [0]), (0x31, [0]), (0x32, [0]), (0x33, [0]), (0x34, [0]), (0x35, [0]), (0x40, [0]),
           (0x41, [0]), (0x50, [0]), (0x51, [0]), (0x52, [0])])

/-- One word of each family, written out from 30_encoding.md R113. -/
def Obligations.SampleWordsDecode : Prop :=
  decode 0x0000 = .ok .nop ∧ decode 0x0004 = .ok .mulshr ∧ decode 0x2010 = .ok .mafUpdateAcavg
    ∧ decode 0x3013 = .ok .rmsReset ∧ decode 0x5020 = .ok .piUpdatePic ∧ decode 0x0031 = .ok .vloop
    ∧ decode 0x0041 = .ok .faultRecover ∧ decode 0x0052 = .ok .tick
    ∧ decode 0x0152 = .error .nonzeroRsv ∧ decode 0x3010 = .error .unlistedUnit ∧ decode 0x0009 = .error .unlistedOp

/-! ## The port -/

/-- 30_encoding.md R115: an illegal word on the port sets ILLEGAL and changes nothing else. -/
def Obligations.IllegalWordOnlySetsIllegal : Prop :=
  ∀ (s : State) (w : W16) (rest : List PortEvent),
    s.port = .command w :: rest → (∀ i, decode w ≠ .ok i) →
    step s = .next { s with port := rest, status := { s.status with illegal := true } }

/-- A step runs the decoded command on the state without that event. The port as a list is the model's (log 1). -/
def Obligations.StepRunsTheDecodedCommand : Prop :=
  (∀ (s : State) (w : W16) (rest : List PortEvent) (i : Instr),
      s.port = .command w :: rest → decode w = .ok i → step s = exec i { s with port := rest })
    ∧ ∀ (s : State) (i : Instr), step (s.withFetchWord 16 (encode i).toNat) = exec i s

/-- 20_memory.md R81, R90; 60_exceptions.md R360. The host's read goes back to the host and changes nothing else; a bus
write acts through `busWrite`; an empty port idles. The port as a list and the list of words read are the model's
(logs 1 and 7). -/
def Obligations.StepTakesTheFirstPortEvent : Prop :=
  (∀ s : State, s.port = [] → step s = .next s)
    ∧ (∀ (s : State) (a : Addr) (rest : List PortEvent), s.port = .busRead a :: rest →
        step s = .next { s with port := rest, hostReads := s.hostReads ++ [busRead a s] })
    ∧ ∀ (s : State) (a : Addr) (v : W16) (rest : List PortEvent), s.port = .busWrite a v :: rest →
        step s = .next (busWrite a v { s with port := rest })

/-- 30_encoding.md R122: while TRIGEN is 1 a trigger event is the command word 0x0052, gate and all; while it is 0 it is
lost: no effect, no ILLEGAL, not remembered. -/
def Obligations.TriggerEventIsTickOrLost : Prop :=
  ∀ (s : State) (rest : List PortEvent), s.port = .trig :: rest →
    (s.ctrl.trigen = true → step s = step { s with port := .command 0x0052 :: rest })
      ∧ (s.ctrl.trigen = false → step s = .next { s with port := rest })

/-- 20_memory.md R91: a telemetry read that overlaps a TICK returns some 16-bit word, of which nothing is said; one that
does not returns the word of R81; neither changes a register. -/
def Obligations.TelemetryReadsAreExactOutsideTicks : Prop :=
  ∀ (s : State) (a : Addr) (overlaps : Bool) (rest : List PortEvent), s.port = .telemetryRead a overlaps :: rest →
    ∃ (w : W16) (t : State), step s = .next t
      ∧ t.telemetryReads = s.telemetryReads ++ [w]
      ∧ (overlaps = false → w = busRead a s)
      ∧ ∃ n, t = { s with port := rest, telemetryReads := t.telemetryReads, tornDraws := n }

/-- 30_encoding.md R116, for each of the 31 commands: if the gate fails, the command raises ILLEGAL and has no other
effect. -/
def Obligations.FailedGateOnlySetsIllegal : Prop :=
  ∀ (i : Instr) (s : State),
    gateCondition (gateOf i) s.ctrl.trigen s.status.configured = false →
      exec i s = .next { s with status := { s.status with illegal := true } }

/-! ## NOP and the fixed-point primitives -/

/-- 30_encoding.md R117: NOP (word 0x0000) has no effect in any state, and every OP value the rule lists as reserved is
illegal whatever its unit. -/
def Obligations.NopHasNoEffectAndReservedOpsAreIllegal : Prop :=
  decode 0x0000 = .ok .nop ∧ (∀ s : State, exec .nop s = .next s)
    ∧ ∀ w : W16,
        ((0x09 ≤ w.toNat % 256 ∧ w.toNat % 256 ≤ 0x0F) ∨ (0x15 ≤ w.toNat % 256 ∧ w.toNat % 256 ≤ 0x1F)
          ∨ (0x22 ≤ w.toNat % 256 ∧ w.toNat % 256 ≤ 0x2F) ∨ (0x36 ≤ w.toNat % 256 ∧ w.toNat % 256 ≤ 0x3F)
          ∨ (0x42 ≤ w.toNat % 256 ∧ w.toNat % 256 ≤ 0x4F) ∨ 0x53 ≤ w.toNat % 256) →
        ∀ i, decode w ≠ .ok i

/-- 40_fixed_point.md R141. -/
def Obligations.Sat16Saturates : Prop :=
  ∀ s : State, PrimitiveRule .sat16 0x0001 s (some (max (-32768) (min 32767 s.operands.a.toInt)))

/-- 40_fixed_point.md R142. -/
def Obligations.ClampLimitsToTheInterval : Prop :=
  ∀ s : State, PrimitiveRule .clamp 0x0002 s
    (some (max s.operands.b.toInt (min s.operands.a.toInt s.operands.c.toInt)))

/-- 40_fixed_point.md R143: the floored Q15 product of the operands' bits 15:0, saturated to int16. -/
def Obligations.MulqIsTheSaturatedQ15Product : Prop :=
  ∀ s : State, PrimitiveRule .mulq 0x0003 s
    (some (saturated (low16Signed s.operands.a * low16Signed s.operands.b / 2 ^ 15)))

/-- 40_fixed_point.md R144: the exact product, shifted by OPC[5:0] with floor, wrapped to int32. -/
def Obligations.MulshrIsTheWrappedScaledProduct : Prop :=
  ∀ s : State, PrimitiveRule .mulshr 0x0004 s
    (some ((s.operands.a.toInt * s.operands.b.toInt / 2 ^ (s.operands.c.toNat % 64)).bmod (2 ^ 32)))

/-- 40_fixed_point.md R145: truncated, saturated; a zero divisor leaves RES unchanged. -/
def Obligations.DivqIsTheGuardedScaledQuotient : Prop :=
  ∀ s : State, PrimitiveRule .divq 0x0005 s
    (if low16Signed s.operands.b = 0 then none
     else some (saturated ((low16Signed s.operands.a * 2 ^ 15).tdiv (low16Signed s.operands.b))))

/-- 40_fixed_point.md R146: truncated, wrapped to int32; a zero divisor leaves RES unchanged. -/
def Obligations.DivtIsTheGuardedTruncatingQuotient : Prop :=
  ∀ s : State, PrimitiveRule .divt 0x0006 s
    (if s.operands.b.toInt = 0 then none
     else some ((s.operands.a.toInt.tdiv s.operands.b.toInt).bmod (2 ^ 32)))

/-- 40_fixed_point.md R147. -/
def Obligations.AccIsTheWrappedSum : Prop :=
  ∀ s : State, PrimitiveRule .acc 0x0007 s (some ((s.operands.a.toInt + s.operands.b.toInt).bmod (2 ^ 32)))

/-- 40_fixed_point.md R148: floor of the quotient by 2^OPC[4:0]. -/
def Obligations.ShraIsTheFlooredQuotient : Prop :=
  ∀ s : State, PrimitiveRule .shra 0x0008 s (some (s.operands.a.toInt / 2 ^ (s.operands.c.toNat % 32)))

/-- 41_estimators.md R179: the exact magnitude of the difference, 0 to 65535, zero-extended. -/
def Obligations.RectIsTheExactMagnitude : Prop :=
  ∀ s : State,
    PrimitiveRule .rect 0x0014 s (some (low16Signed s.operands.a - low16Signed s.operands.b).natAbs)
      ∧ (low16Signed s.operands.a - low16Signed s.operands.b).natAbs ≤ 65535

/-! ## Estimators -/

/-- 41_estimators.md R171, for both units: one more sample, the emission at a full window, and nothing else. -/
def Obligations.MafUpdateAddsOneSample : Prop :=
  ∀ s : State, s.configChecked →
    (DebugCommand .mafUpdateDcavg 0x1010 s
      ∧ (s.debugReady → ∃ m rdy,
          MafRule s.cfg.dcavgN (low16Signed s.operands.a) s.dcavg m s.status.dcrdy rdy
            ∧ exec .mafUpdateDcavg s = .next { s with dcavg := m, status := { s.status with dcrdy := rdy } }))
    ∧ (DebugCommand .mafUpdateAcavg 0x2010 s
      ∧ (s.debugReady → ∃ m rdy,
          MafRule s.cfg.acavgN (low16Signed s.operands.a) s.acavg m s.status.acrdy rdy
            ∧ exec .mafUpdateAcavg s = .next { s with acavg := m, status := { s.status with acrdy := rdy } }))

/-- 41_estimators.md R172 for both moving-average units, R177 for RMS: every runtime register of the unit and its ready
flag to 0; the window length is kept, and nothing else changes. -/
def Obligations.EstimatorResetsClearTheUnit : Prop :=
  ∀ s : State,
    (DebugCommand .mafResetDcavg 0x1011 s
      ∧ (s.debugReady → exec .mafResetDcavg s =
          .next { s with dcavg := { sum := 0, cnt := 0, out := 0 }, status := { s.status with dcrdy := false } }))
    ∧ (DebugCommand .mafResetAcavg 0x2011 s
      ∧ (s.debugReady → exec .mafResetAcavg s =
          .next { s with acavg := { sum := 0, cnt := 0, out := 0 }, status := { s.status with acrdy := false } }))
    ∧ DebugCommand .rmsReset 0x3013 s
      ∧ (s.debugReady → exec .rmsReset s =
          .next { s with
            rms := { sum := 0, cnt := 0, out := 0, peak := 0 }
            status := { s.status with rmsrdy := false } })

/-- 41_estimators.md R173: from a reset and a legal window length N, after any sequence of samples: the output is the
truncated average of the most recent complete window (0 before the first), the ready flag says whether a window
was completed, an emission happens on every N-th call (CNT is the number of calls modulo N), SUM is the sum of the
samples since, and CNT < N and |SUM| ≤ CNT * 32768 < 2^31. -/
def Obligations.MafAveragesTheLastCompleteWindow : Prop :=
  ∀ (u : MafSel) (s : State) (xs : List W32), s.debugReady → 1 ≤ (s.mafN u).toNat →
    ∃ s0 t, exec u.reset s = .next s0 ∧ feed u.update xs s0 = .next t ∧
      let n := (s.mafN u).toNat
      let full := xs.length / n
      let window := ((xs.take (full * n)).drop ((full - 1) * n)).map low16Signed
      let since := (xs.drop (full * n)).map low16Signed
      (t.maf u).out.toInt = (if full = 0 then 0 else window.sum.tdiv n)
        ∧ t.mafReady u = decide (n ≤ xs.length)
        ∧ (t.maf u).cnt.toNat = xs.length % n
        ∧ (t.maf u).sum.toInt = since.sum
        ∧ (t.maf u).cnt.toNat < n
        ∧ (t.maf u).sum.toInt.natAbs ≤ (t.maf u).cnt.toNat * 32768
        ∧ (t.maf u).cnt.toNat * 32768 < 2 ^ 31

/-- 41_estimators.md R175 and R176. -/
def Obligations.RmsUpdateAddsOneSquare : Prop :=
  ∀ s : State, s.configChecked →
    DebugCommand .rmsUpdate 0x3012 s
      ∧ (s.debugReady → ∃ r rdy,
          RmsRule s.cfg.rmsN s.params.rmsSqShift.val (low16Unsigned s.operands.a) s.rms r s.status.rmsrdy rdy
            ∧ exec .rmsUpdate s = .next { s with rms := r, status := { s.status with rmsrdy := rdy } })

/-- 41_estimators.md R178: from a reset and a legal window length, RMS_OUT is the truncated mean of the squared terms of
the most recent complete window (0 before the first) and lies in 0 to 32767; RMSRDY becomes 1 exactly at the N-th
call and stays; 0 ≤ RMS_SUM ≤ RMS_CNT * 32767 < 2^31. -/
def Obligations.RmsIsTheMeanSquareOfTheLastCompleteWindow : Prop :=
  ∀ (s : State) (xs : List W32), s.debugReady → 1 ≤ s.cfg.rmsN.toNat →
    ∃ s0 t, exec .rmsReset s = .next s0 ∧ feed .rmsUpdate xs s0 = .next t ∧
      let n := s.cfg.rmsN.toNat
      let full := xs.length / n
      let term := fun x => squaredTerm s.params.rmsSqShift.val (low16Unsigned x)
      let window := ((xs.take (full * n)).drop ((full - 1) * n)).map term
      t.rms.out.toInt = (if full = 0 then 0 else window.sum.tdiv n)
        ∧ (0 ≤ t.rms.out.toInt ∧ t.rms.out.toInt ≤ 32767)
        ∧ t.status.rmsrdy = decide (n ≤ xs.length)
        ∧ t.rms.cnt.toNat = xs.length % n
        ∧ (0 ≤ t.rms.sum.toInt ∧ t.rms.sum.toInt ≤ t.rms.cnt.toNat * 32767)
        ∧ t.rms.cnt.toNat * 32767 < 2 ^ 31

/-! ## PI units -/

/-- 42_pi.md R202, R204, for both units with the default algorithm; ILLEGAL when the gate fails. The effective gain of
the direct command is the unit's own KI. -/
def Obligations.PiUpdateIsTheClampedParallelForm : Prop :=
  ∀ s : State, s.params.piUpdate = .default →
    (DebugCommand .piUpdatePiv 0x4020 s
      ∧ (s.debugReady → ∃ u,
          PiRule .default s.cfg.piv (low16Signed s.operands.a) s.cfg.piv.ki.toInt s.piv u
            ∧ exec .piUpdatePiv s = .next { s with piv := u }))
    ∧ (DebugCommand .piUpdatePic 0x5020 s
      ∧ (s.debugReady → ∃ u,
          PiRule .default s.cfg.pic (low16Signed s.operands.a) s.cfg.pic.ki.toInt s.pic u
            ∧ exec .piUpdatePic s = .next { s with pic := u }))

/-- 42_pi.md R203 and R209, for every algorithm the parameter can be: the update writes ERR, INT and OUT of its own unit
and nothing else; ERR is e; with MIN ≤ MAX the output lies in [MIN, MAX]; and the new INT and OUT are a function of
(old INT, e, kiEff, KP, KPS, KIS, MIN, MAX) only: two states that agree on those agree on the results. -/
def Obligations.PiUpdateObeysTheLaws : Prop :=
  ∀ (p : PiSel) (s : State), s.debugReady →
    ∃ (err : W16) (integ : W32) (out : W16),
      exec p.update s = .next (s.setPi p { ref := (s.pi p).ref, err := err, integ := integ, out := out })
        ∧ err.toInt = low16Signed s.operands.a
        ∧ ((s.piCfg p).min.toInt ≤ (s.piCfg p).max.toInt →
            (s.piCfg p).min.toInt ≤ out.toInt ∧ out.toInt ≤ (s.piCfg p).max.toInt)
        ∧ (s.params.piUpdate = .default → (s.piCfg p).min.toInt ≤ (s.piCfg p).max.toInt →
            (s.piCfg p).min.toInt ≤ integ.toInt ∧ integ.toInt ≤ (s.piCfg p).max.toInt)
        ∧ (s.params.piUpdate = .default → (s.piCfg p).max.toInt < (s.piCfg p).min.toInt → out = (s.piCfg p).min)
        ∧ ∀ (q : PiSel) (r : State), r.debugReady → r.params.piUpdate = s.params.piUpdate →
            (r.pi q).integ = (s.pi p).integ → low16Signed r.operands.a = low16Signed s.operands.a →
            r.piCfg q = s.piCfg p →
            ∃ err', exec q.update r = .next (r.setPi q { ref := (r.pi q).ref, err := err', integ := integ, out := out })

/-- 42_pi.md R205, for both units: INT to 0 and nothing else. -/
def Obligations.PiResetZeroesTheIntegrator : Prop :=
  ∀ s : State,
    (DebugCommand .piResetPiv 0x4021 s
      ∧ (s.debugReady → exec .piResetPiv s = .next { s with piv := { s.piv with integ := 0 } }))
    ∧ (DebugCommand .piResetPic 0x5021 s
      ∧ (s.debugReady → exec .piResetPic s = .next { s with pic := { s.pic with integ := 0 } }))

/-- 42_pi.md R207: outside PI_UPDATE, PI_RESET, VLOOP and ILOOP, a command changes an integrator only if it is an INIT
command, or a TICK in INIT (both to 0), in CTRL_RUN, or at the fault return (both to 0). -/
def Obligations.IntegratorsChangeOnlyAtTheListedPoints : Prop :=
  ∀ (i : Instr) (s t : State), exec i s = .next t →
    (t.piv.integ ≠ s.piv.integ →
      i = .piUpdatePiv ∨ (i = .piResetPiv ∧ t.piv.integ = 0) ∨ i = .vloop ∨ (i = .init ∧ t.piv.integ = 0)
        ∨ (i = .tick ∧ s.status.state.toNat = 0 ∧ t.piv.integ = 0)
        ∨ (i = .tick ∧ s.status.state.toNat = 3 ∧ t.status.state.toNat = 3)
        ∨ (i = .tick ∧ s.status.state.toNat = 4 ∧ t.status.state.toNat = 3 ∧ t.piv.integ = 0))
    ∧ (t.pic.integ ≠ s.pic.integ →
      i = .piUpdatePic ∨ (i = .piResetPic ∧ t.pic.integ = 0) ∨ i = .iloop ∨ (i = .init ∧ t.pic.integ = 0)
        ∨ (i = .tick ∧ s.status.state.toNat = 0 ∧ t.pic.integ = 0)
        ∨ (i = .tick ∧ s.status.state.toNat = 3 ∧ t.status.state.toNat = 3)
        ∨ (i = .tick ∧ s.status.state.toNat = 4 ∧ t.status.state.toNat = 3 ∧ t.pic.integ = 0))

/-! ## Control loop -/

/-- 43_control.md R231, and the law R241: PIV_REF never falls, and stays at or below VREF_FINAL if it was. -/
def Obligations.SoftstartStepsTheRamp : Prop :=
  ∀ s : State, s.configChecked →
    DebugCommand .softstart 0x0030 s
      ∧ (s.debugReady → ∃ t, exec .softstart s = .next t ∧ SoftStartRule s t
          ∧ s.piv.ref.toInt ≤ t.piv.ref.toInt
          ∧ (s.piv.ref.toInt ≤ s.cfg.vrefFinal.toInt → t.piv.ref.toInt ≤ s.cfg.vrefFinal.toInt))

/-- 43_control.md R232 and R233. Under the default algorithm the update is that of 42_pi.md R204; under any other its
values are those of `PI_UPDATE` on equal arguments, the scheduled gain among them (R203 laws 1 to 4). -/
def Obligations.VloopRunsThePiEveryDividedCall : Prop :=
  ∀ s : State, s.configChecked →
    DebugCommand .vloop 0x0031 s ∧ (s.debugReady → ∃ t, exec .vloop s = .next t ∧ VLoopRule s t)

/-- 43_control.md R234, and the law R242: 0 ≤ IREF ≤ 32735 whatever the inputs. -/
def Obligations.IrefIsTheClampedShapedReference : Prop :=
  ∀ s : State,
    DebugCommand .iref 0x0032 s
      ∧ (s.debugReady → ∃ t, exec .iref s = .next t ∧ IRefRule s t
          ∧ 0 ≤ t.scal.iref.toInt ∧ t.scal.iref.toInt ≤ 32735)

/-- 43_control.md R235. -/
def Obligations.BoostdIsTheGuardedDutyRatio : Prop :=
  ∀ s : State, DebugCommand .boostd 0x0033 s ∧ (s.debugReady → ∃ t, exec .boostd s = .next t ∧ BoostDRule s t)

/-- 43_control.md R236. -/
def Obligations.IcorrSubtractsTheSensorOffset : Prop :=
  ∀ s : State, DebugCommand .icorr 0x0034 s ∧ (s.debugReady → ∃ t, exec .icorr s = .next t ∧ ICorrRule s t)

/-- 43_control.md R237, with R238 and R239. The PI update is given as in `VloopRunsThePiEveryDividedCall`. -/
def Obligations.IloopComputesCurrentAndDuty : Prop :=
  ∀ s : State, s.configChecked →
    DebugCommand .iloop 0x0035 s ∧ (s.debugReady → ∃ t, exec .iloop s = .next t ∧ ILoopRule s t)

/-! ## Fault monitor -/

/-- 44_fault.md R272 with the set operation of R271, in both modes. -/
def Obligations.FaultTripSetsTheTrippedBits : Prop :=
  ∀ s : State,
    DebugCommand .faultTrip 0x0040 s
      ∧ (s.debugReady → ∃ mask, TripRule s mask ∧ exec .faultTrip s = .next { s with fault := mask })

/-- 44_fault.md R273. -/
def Obligations.FaultRecoverClearsTheRecoveredBits : Prop :=
  ∀ s : State,
    DebugCommand .faultRecover 0x0041 s
      ∧ (s.debugReady → ∃ mask, RecoverRule s mask ∧ exec .faultRecover s = .next { s with fault := mask })

/-- 44_fault.md R274, the table of one FAULT-state tick under OR with the recommended orderings, for the three bits. The
measurements are those the tick leaves. -/
def Obligations.FaultTickDecidesBitsByHysteresis : Prop :=
  ∀ s : State, s.tickReady 4 → s.params.faultSetMode = .or →
    s.cfg.acUvLim.toInt ≤ s.cfg.acUvRec.toInt → s.cfg.acOvRec.toInt ≤ s.cfg.acOvLim.toInt →
    s.cfg.dcOvRec.toInt ≤ s.cfg.dcOvLim.toInt →
    ∃ t, exec .tick s = .next t
      ∧ t.fault.getLsbD 1 =
          (if t.rms.out.toInt < s.cfg.acUvLim.toInt then true
           else if t.rms.out.toInt ≤ s.cfg.acUvRec.toInt then s.fault.getLsbD 1
           else false)
      ∧ t.fault.getLsbD 2 =
          (if s.cfg.acOvLim.toInt ≤ t.rms.out.toInt then true
           else if s.cfg.acOvRec.toInt ≤ t.rms.out.toInt then s.fault.getLsbD 2
           else false)
      ∧ t.fault.getLsbD 0 =
          (if s.cfg.dcOvLim.toInt ≤ t.dcavg.out.toInt then true
           else if s.cfg.dcOvRec.toInt ≤ t.dcavg.out.toInt then s.fault.getLsbD 0
           else false)

/-! ## Sequencer -/

/-- 45_sequencer.md R291. -/
def Obligations.EstimRunsEveryEstimatorOnce : Prop :=
  ∀ s : State, s.configChecked →
    DebugCommand .estim 0x0050 s ∧ (s.debugReady → ∃ t, exec .estim s = .next t ∧ EstimRule s t)

/-- 45_sequencer.md R296. -/
def Obligations.ConfigurationCheckIsTheLegalRanges : Prop := ∀ c : Cfg, c.legal = true ↔ LegalRanges c

/-- 45_sequencer.md R292: refused while TRIGEN = 1; a failed check sets CFGERR, clears CONFIGURED and changes nothing
else; a passed one leaves STATUS = CONFIGURED alone, zeroes every runtime register, and calls disableOutputs. -/
def Obligations.InitChecksAndResets : Prop :=
  ∀ s : State,
    decode 0x0051 = .ok .init
      ∧ (s.ctrl.trigen = true → Refuses .init s)
      ∧ (s.ctrl.trigen = false → ¬ LegalRanges s.cfg →
          exec .init s = .next { s with status := { s.status with cfgerr := true, configured := false } })
      ∧ (s.ctrl.trigen = false → LegalRanges s.cfg →
          exec .init s = .next { s with
            status :=
              { state := 0, outen := false, calrdy := false, dcrdy := false, acrdy := false, rmsrdy := false
                configured := true, cfgerr := false, illegal := false }
            fault := 0
            duty := 0
            snap := { vdc := 0, vac := 0, vacOffset := 0, rect := 0, il := 0, ilOffset := 0 }
            dcavg := { sum := 0, cnt := 0, out := 0 }
            acavg := { sum := 0, cnt := 0, out := 0 }
            rms := { sum := 0, cnt := 0, out := 0, peak := 0 }
            piv := { ref := 0, err := 0, integ := 0, out := 0 }
            pic := { ref := 0, err := 0, integ := 0, out := 0 }
            scal := { ssCnt := 0, vlCnt := 0, boostd := 0, iref := 0, iavg := 0 }
            calls := s.calls ++ [.disableOutputs] })

/-- 45_sequencer.md R302: a configured TICK that finds STATE above 4 raises ILLEGAL and changes nothing else. -/
def Obligations.TickInUnreachableStateIsRefused : Prop :=
  ∀ s : State, s.status.configured = true → 4 < s.status.state.toNat → Refuses .tick s

/-- 45_sequencer.md R297, after the Latch, ESTIM and FAULT_TRIP of R293. -/
def Obligations.InitStateTickResetsAndStartsCalibration : Prop :=
  ∀ s : State, s.tickReady 0 →
    ∃ f, MeasureRule s f
      ∧ exec .tick s = .next { f with
          dcavg := { sum := 0, cnt := 0, out := 0 }
          acavg := { sum := 0, cnt := 0, out := 0 }
          rms := { sum := 0, cnt := 0, out := 0, peak := 0 }
          piv := { ref := f.piv.ref, err := 0, integ := 0, out := 0 }
          pic := { ref := f.pic.ref, err := 0, integ := 0, out := 0 }
          snap := { f.snap with vacOffset := 0 }
          duty := 0
          scal := { f.scal with vlCnt := 0, ssCnt := f.cfg.ssPeriod }
          status :=
            { f.status with
              state := 1, outen := false, calrdy := false, dcrdy := false, acrdy := false, rmsrdy := false }
          calls := f.calls ++ [.disableOutputs, .calStart] }

/-- 45_sequencer.md R298, after the Latch, ESTIM and FAULT_TRIP of R293: some answer of the calibration unit is taken,
of which nothing is said (60_exceptions.md R349), and everything else follows from it. Two clauses are the model's: that
`calUpdate` is recorded among the calls is log 8 (DEDUCED from R349 and 70_reset_and_hazards.md R389), and the fields an
answer comes from, which the statement leaves open, are log 5 (DESIGN CHOICE). -/
def Obligations.OffsetMeasTickTakesOneCalibrationAnswer : Prop :=
  ∀ s : State, s.tickReady 1 →
    ∃ (f : State) (ans : CalAnswer) (rest : List CalAnswer) (draws : Nat), MeasureRule s f
      ∧ let g := { f with
          status := { f.status with calrdy := ans.ready }
          snap := { f.snap with ilOffset := ans.offset }
          calls := f.calls ++ [.calUpdate]
          calAnswers := rest
          calDraws := draws }
        exec .tick s = .next
          (if ans.ready = true ∧ f.status.dcrdy = true then
            { g with
              piv := { g.piv with ref := f.dcavg.out }
              snap := { g.snap with vacOffset := f.acavg.out }
              status := { g.status with state := 2 } }
          else g)

/-- 45_sequencer.md R299, after the Latch, ESTIM and FAULT_TRIP of R293. -/
def Obligations.Wait1CycleTickWaitsForRms : Prop :=
  ∀ s : State, s.tickReady 2 →
    ∃ f, MeasureRule s f
      ∧ exec .tick s = .next
          (if f.status.rmsrdy = true then
            { f with
              status := { f.status with outen := true, state := 3 }
              calls := f.calls ++ [.enableOutputs] }
          else f)

/-- 45_sequencer.md R300, with the order of 43_control.md R230 and the fault entry of 60_exceptions.md R332, after the
Latch, ESTIM and FAULT_TRIP of R293. -/
def Obligations.CtrlRunTickControlsOrEntersFault : Prop :=
  ∀ s : State, s.tickReady 3 →
    ∃ f c, MeasureRule s f ∧ ICorrRule f c
      ∧ (c.fault ≠ 0 →
          exec .tick s = .next { c with
            status := { c.status with state := 4, outen := false }
            duty := 0
            calls := c.calls ++ [.disableOutputs] })
      ∧ (c.fault = 0 → ∃ s1 s2 s3 s4 t, SoftStartRule c s1 ∧ VLoopRule s1 s2 ∧ IRefRule s2 s3 ∧ BoostDRule s3 s4
          ∧ ILoopRule s4 t ∧ exec .tick s = .next t)

/-- 45_sequencer.md R301, with the fault return of 60_exceptions.md R333, after the Latch, ESTIM and FAULT_TRIP of
R293. -/
def Obligations.FaultTickRecoversAndReturns : Prop :=
  ∀ s : State, s.tickReady 4 →
    ∃ f mask, MeasureRule s f ∧ RecoverRule f mask
      ∧ let g := { f with
          fault := mask
          duty := 0
          status := { f.status with outen := false }
          calls := f.calls ++ [.disableOutputs] }
        exec .tick s = .next
          (if mask = 0 then
            { g with
              piv := { g.piv with integ := 0, ref := f.dcavg.out }
              pic := { g.pic with integ := 0 }
              status := { g.status with outen := true, state := 3 }
              calls := g.calls ++ [.enableOutputs] }
          else g)

/-- 45_sequencer.md R303, the complete transition relation, by the flags the TICK leaves; and no command but TICK and a
passing INIT changes the state. -/
def Obligations.StateMovesOnlyByTheTransitionRelation : Prop :=
  (∀ s t : State, s.status.configured = true → exec .tick s = .next t →
    (s.status.state.toNat = 0 → t.status.state.toNat = 1)
      ∧ (s.status.state.toNat = 1 →
          t.status.state.toNat = if t.status.calrdy = true ∧ t.status.dcrdy = true then 2 else 1)
      ∧ (s.status.state.toNat = 2 → t.status.state.toNat = if t.status.rmsrdy = true then 3 else 2)
      ∧ (s.status.state.toNat = 3 → t.status.state.toNat = if t.fault ≠ 0 then 4 else 3)
      ∧ (s.status.state.toNat = 4 → t.status.state.toNat = if t.fault = 0 then 3 else 4))
  ∧ (∀ s t : State, s.ctrl.trigen = false → LegalRanges s.cfg → exec .init s = .next t → t.status.state = 0)
  ∧ ∀ (i : Instr) (s t : State), exec i s = .next t →
      (i = .tick → s.status.configured = false) → (i = .init → s.ctrl.trigen = true ∨ ¬ LegalRanges s.cfg) →
      t.status.state = s.status.state

/-- 43_control.md R240 and 45_sequencer.md R305: from a duty that obeys the law, and 0 before CTRL_RUN, a TICK leaves a
duty that obeys it; it is 0 after a TICK in INIT, OFFSET_MEAS, WAIT_1CYCLE or FAULT, on fault entry, and in standby. -/
def Obligations.DutyIsZeroOrWithinItsLimits : Prop :=
  ∀ s : State, s.status.configured = true → s.cfg.legal = true → s.phaseLegal →
    (s.status.state.toNat = 1 ∨ s.status.state.toNat = 2 → s.duty = 0) →
    ∃ t, exec .tick s = .next t
      ∧ (t.duty = 0 ∨ (s.cfg.dutyMin.toNat ≤ t.duty.toNat ∧ t.duty.toNat ≤ s.cfg.dutyMax.toNat))
      ∧ (s.status.state.toNat ≠ 3 → t.duty = 0)
      ∧ (s.status.state.toNat = 3 → t.fault ≠ 0 ∨ t.piv.out.toInt < s.cfg.voutMinpk.toInt → t.duty = 0)
      ∧ (s.status.state.toNat = 3 → t.fault = 0 → ¬ t.piv.out.toInt < s.cfg.voutMinpk.toInt →
          (t.duty.toNat : Int) =
            max (s.cfg.dutyMin.toNat : Int) (min (t.pic.out.toInt * s.cfg.period.toNat / 2 ^ 15) s.cfg.dutyMax.toNat))

/-- 10_state.md R37: TICK never reads or writes the operand registers: with others in their place it does the same and
leaves them as they are. And no rule reads RMS_PEAK (R41): with another peak, a TICK differs in the peak alone. -/
def Obligations.TickIgnoresOperandsAndPeak : Prop :=
  ∀ (s : State) (o : Operands) (p : W16), ∃ t, exec .tick s = .next t
    ∧ t.operands = s.operands
    ∧ exec .tick { s with operands := o } = .next { t with operands := o }
    ∧ ∃ q, exec .tick { s with rms := { s.rms with peak := p } } = .next { t with rms := { t.rms with peak := q } }

/-! ## Register bus -/

/-- 20_memory.md R81, with the layouts of 10_state.md R32 and R33, the map R51 and the halves of R84: every address reads
its register's word, and a reserved one reads 0. -/
def Obligations.BusReadFollowsTheRegisterMap : Prop :=
  ∀ (a : Addr) (s : State),
    busRead a s = ((registerWords s).lookup a.toNat).getD 0
      ∧ (classByMap a.toNat = .r → busRead a s = 0)

/-- 20_memory.md R82, by the class of the address, for every class but K: what is stored, what is refused, that every
other address keeps its word, and that nothing outside the registers changes. -/
def Obligations.BusWriteActsByClass : Prop :=
  ∀ (a : Addr) (v : W16) (s : State),
    let stored (t : State) : Prop :=
      busRead a t = v ∧ (∀ b : Addr, b ≠ a → b ≠ 0x01 → busRead b t = busRead b s) ∧ SameOutside s t
    let refused (t : State) : Prop := t = { s with status := { s.status with illegal := true } }
    let t := busWrite a v s
    (classByMap a.toNat = .i → stored t ∧ t.status = s.status)
      ∧ (classByMap a.toNat = .s → refused t)
      ∧ (classByMap a.toNat = .r → refused t)
      ∧ (classByMap a.toNat = .d → (s.ctrl.trigen = false → stored t ∧ t.status = s.status)
          ∧ (s.ctrl.trigen = true → refused t))
      ∧ (classByMap a.toNat = .c → (s.ctrl.trigen = false → stored t ∧ t.status = { s.status with configured := false })
          ∧ (s.ctrl.trigen = true → refused t))

/-- 20_memory.md R83: TRIGEN always takes bit 0; the option bits change only while TRIGEN is 0, and then CONFIGURED is
cleared; an attempt while it is 1 raises ILLEGAL; bits 15:4 are ignored. -/
def Obligations.CtrlWriteGatesTheOptions : Prop :=
  ∀ (v : W16) (s : State),
    let same := v.getLsbD 1 = s.ctrl.ocorrEn ∧ v.getLsbD 2 = s.ctrl.pbalEn ∧ v.getLsbD 3 = s.ctrl.dcmEn
    (same → busWrite 0x00 v s = { s with ctrl := { s.ctrl with trigen := v.getLsbD 0 } })
      ∧ (¬ same → s.ctrl.trigen = true →
          busWrite 0x00 v s = { s with
            ctrl := { s.ctrl with trigen := v.getLsbD 0 }
            status := { s.status with illegal := true } })
      ∧ (¬ same → s.ctrl.trigen = false →
          busWrite 0x00 v s = { s with
            ctrl := { trigen := v.getLsbD 0, ocorrEn := v.getLsbD 1, pbalEn := v.getLsbD 2, dcmEn := v.getLsbD 3 }
            status := { s.status with configured := false } })

/-! ## Reset and invariants -/

/-- 70_reset_and_hazards.md R370: at power-on, under any parameters, every word of the map reads 0 and no collaborator
has been called; the machine's reset is this state with the default parameters. -/
def Obligations.PowerOnIsAllZero : Prop :=
  (∀ (p : Params) (a : Addr), busRead a (State.powerOn p) = 0)
    ∧ (∀ p : Params, (State.powerOn p).calls = []) ∧ State.reset = State.powerOn Params.standard

/-- 70_reset_and_hazards.md R381 and 45_sequencer.md R302: every step, from any state, keeps that a configuration which
counts as checked is a legal one, and that STATE is at most 4. -/
def Obligations.EveryStepKeepsConfigurationCheckedAndPhaseLegal : Prop :=
  ∀ s t : State, step s = .next t →
    (s.configChecked → t.configChecked) ∧ (s.phaseLegal → t.phaseLegal)

/-- 10_state.md R49: while the host makes no debug write with the trigger masked, every step keeps the bounds of the
running block: the counts below their windows, the sums within theirs, 0 ≤ IREF ≤ 32735, VL_CNT ≤ VL_DIV, the duty law,
STATE in 0 to 4, and each PI output 0 or within its clamps. An INIT command that passes establishes them from any
state. -/
def Obligations.EveryStepWithoutDebugWriteKeepsTheBounds : Prop :=
  (∀ s t : State, s.runInvariant → (s.ctrl.trigen = false → ∀ e ∈ s.port.head?, e.isDebugWrite = false) →
      step s = .next t → t.runInvariant)
    ∧ ∀ s t : State, s.ctrl.trigen = false → s.cfg.legal = true → exec .init s = .next t →
        t.status.configured = true ∧ t.runInvariant

/-- The invariants hold at reset, and at power-on under any parameters. -/
def Obligations.PowerOnMeetsTheInvariants : Prop :=
  (∀ p : Params, (State.powerOn p).runInvariant ∧ (State.powerOn p).configChecked ∧ (State.powerOn p).phaseLegal
      ∧ (State.powerOn p).outenMirrors ∧ (State.powerOn p).unrefused)
    ∧ State.reset.runInvariant ∧ State.reset.outenMirrors

/-- 10_state.md R32, 60_exceptions.md R347: OUTEN is the last switching-output command among the recorded calls, in every
state a step can make of one where it is; and calls are only ever added, at the end. -/
def Obligations.EveryStepKeepsOutenTheLastSwitchCall : Prop :=
  ∀ s t : State, s.outenMirrors → step s = .next t →
    t.outenMirrors ∧ ∃ made, t.calls = s.calls ++ made

/-- 60_exceptions.md R335: ILLEGAL is sticky: a step that clears it runs an INIT command, with the trigger masked, on a
legal configuration. -/
def Obligations.IllegalIsClearedOnlyByAPassingInit : Prop :=
  ∀ s t : State, step s = .next t → s.status.illegal = true → t.status.illegal = false →
    s.port.head? = some (.command 0x0051) ∧ s.ctrl.trigen = false ∧ LegalRanges s.cfg

/-- 20_memory.md R89, 70_reset_and_hazards.md R381: while the trigger is enabled, no step changes a configuration
register, an option bit, an operand register or CONFIGURED. -/
def Obligations.ConfigurationIsFixedWhileTheTriggerIsEnabled : Prop :=
  ∀ s t : State, step s = .next t → s.ctrl.trigen = true →
    t.cfg = s.cfg ∧ t.ctrl.ocorrEn = s.ctrl.ocorrEn ∧ t.ctrl.pbalEn = s.ctrl.pbalEn ∧ t.ctrl.dcmEn = s.ctrl.dcmEn
      ∧ t.operands = s.operands ∧ t.status.configured = s.status.configured

/-- 60_exceptions.md R343: every command runs to completion in every state; and it writes only the words its rule names
(for each of the 31 commands, `writeSet`): every other address reads as before, and CTRL, the configuration, the
samples, the parameters and the port stay. -/
def Obligations.CommandsCompleteAndWriteOnlyTheirRegisters : Prop :=
  ∀ (i : Instr) (s : State), ∃ t, exec i s = .next t
    ∧ (∀ a : Addr, a.toNat ∉ writeSet i → busRead a t = busRead a s)
    ∧ t.params = s.params ∧ t.port = s.port ∧ t.hostReads = s.hostReads ∧ t.telemetryReads = s.telemetryReads
    ∧ ((i ≠ .init ∧ i ≠ .tick) → t.calls = s.calls ∧ t.status.state = s.status.state ∧ t.status.outen = s.status.outen
        ∧ t.status.calrdy = s.status.calrdy ∧ t.status.configured = s.status.configured
        ∧ t.status.cfgerr = s.status.cfgerr)
end

