-- ==== Sys2Proof/Laws/Arith.lean ====
section
/-!
SUPPORT. What the pseudocode primitives of 00_scope.md R14 compute: ranges, and that narrowing a value already in
a register's type keeps it. Later proofs cite these and leave the primitives folded.
-/
namespace Sys2Proof.Machine

theorem int16_range (w : W16) : -32768 ≤ int16 w ∧ int16 w ≤ 32767 := by
  have h1 := BitVec.le_toInt w
  have h2 := BitVec.toInt_lt (x := w)
  simp only [int16]
  omega

theorem uint16_range (w : W16) : 0 ≤ uint16 w ∧ uint16 w ≤ 65535 := by
  have h := w.isLt
  simp only [uint16]
  omega

theorem int32_range (w : W32) : -2147483648 ≤ int32 w ∧ int32 w ≤ 2147483647 := by
  have h1 := BitVec.le_toInt w
  have h2 := BitVec.toInt_lt (x := w)
  simp only [int32]
  omega

theorem sat16_range (v : Int) : -32768 ≤ sat16 v ∧ sat16 v ≤ 32767 := by
  simp only [sat16]
  omega

theorem sat16_of_range {v : Int} (h1 : -32768 ≤ v) (h2 : v ≤ 32767) : sat16 v = v := by
  simp only [sat16]
  omega

theorem clamp_ge_lo (v lo hi : Int) : lo ≤ clamp v lo hi := by
  simp only [clamp]
  omega

theorem clamp_le_hi {lo hi : Int} (v : Int) (h : lo ≤ hi) : clamp v lo hi ≤ hi := by
  simp only [clamp]
  omega

theorem clamp_le_max (v lo hi : Int) : clamp v lo hi ≤ max lo hi := by
  simp only [clamp]
  omega

/-- `>>a` is the floor of the quotient (R14). -/
theorem shra_eq_floor (v : Int) (s : Nat) : shra v s = v / 2 ^ s := by
  rw [shra, Int.shiftRight_eq_div_pow]
  norm_cast

theorem int16_to16 {v : Int} (h1 : -32768 ≤ v) (h2 : v ≤ 32767) : int16 (to16 v) = v := by
  simp only [int16, to16, BitVec.toInt_ofInt]
  rw [Int.bmod_eq_of_le] <;> omega

theorem uint16_to16 {v : Int} (h1 : 0 ≤ v) (h2 : v ≤ 65535) : uint16 (to16 v) = v := by
  simp only [uint16, to16, BitVec.toNat_ofInt]
  omega

theorem int32_to32 {v : Int} (h1 : -2147483648 ≤ v) (h2 : v ≤ 2147483647) : int32 (to32 v) = v := by
  simp only [int32, to32, BitVec.toInt_ofInt]
  rw [Int.bmod_eq_of_le] <;> omega

theorem int32_wrap32 (v : Int) : int32 (wrap32 v) = v.bmod (2 ^ 32) := by
  simp only [int32, wrap32, BitVec.toInt_ofInt]

theorem int16_sext16 (v : Int) : int16 (sext16 v) = v.bmod (2 ^ 16) := by
  simp only [int16, sext16, BitVec.toInt_ofInt]

theorem uint16_wrap16u (v : Int) : uint16 (wrap16u v) = v % 65536 := by
  simp only [uint16, wrap16u, BitVec.toNat_ofInt]
  omega

theorem int32_wrap32_of_range {v : Int} (h1 : -2147483648 ≤ v) (h2 : v ≤ 2147483647) :
    int32 (wrap32 v) = v := int32_to32 h1 h2

/-- A word narrowed from its own reading is itself. -/
theorem to16_int16 (w : W16) : to16 (int16 w) = w := by
  simp only [to16, int16, BitVec.ofInt_toInt]

/-- The signed operand form is the signed reading of OPx mod 2^16 (30_encoding.md R112). -/
theorem opSigned_eq (r : W32) : opSigned r = (r.toNat : Int).bmod 65536 := by
  simp only [opSigned, int16, BitVec.toInt_eq_toNat_bmod, BitVec.extractLsb'_toNat, Nat.shiftRight_zero]
  rw [Int.natCast_mod]
  exact Int.emod_bmod ..

/-- The unsigned operand form is OPx mod 2^16 (30_encoding.md R112). -/
theorem opUnsigned_eq (r : W32) : opUnsigned r = (r.toNat : Int) % 65536 := by
  simp only [opUnsigned, uint16, BitVec.extractLsb'_toNat, Nat.shiftRight_zero]
  norm_cast

theorem opSigned_range (r : W32) : -32768 ≤ opSigned r ∧ opSigned r ≤ 32767 := int16_range _

theorem opUnsigned_range (r : W32) : 0 ≤ opUnsigned r ∧ opUnsigned r ≤ 65535 := uint16_range _

theorem shift6_eq (r : W32) : shift6 r = r.toNat % 64 := by
  simp only [shift6, BitVec.extractLsb'_toNat, Nat.shiftRight_zero]

theorem shift5_eq (r : W32) : shift5 r = r.toNat % 32 := by
  simp only [shift5, BitVec.extractLsb'_toNat, Nat.shiftRight_zero]

end Sys2Proof.Machine
end

