-- ==== Sys2Proof/Laws/State.lean ====
section
/-!
SUPPORT. One lemma per field per named update of the state, each true by computation and tagged @[simp], so that
no later proof unfolds a record update. The updates that select a unit are stated for every unit.
-/
namespace Sys2Proof.Machine

/-! `State.raiseIllegal` -/

@[simp] theorem State.raiseIllegal_ctrl (s : State) : s.raiseIllegal.ctrl = s.ctrl := rfl
@[simp] theorem State.raiseIllegal_status (s : State) : s.raiseIllegal.status = { s.status with illegal := true } := rfl
@[simp] theorem State.raiseIllegal_fault (s : State) : s.raiseIllegal.fault = s.fault := rfl
@[simp] theorem State.raiseIllegal_duty (s : State) : s.raiseIllegal.duty = s.duty := rfl
@[simp] theorem State.raiseIllegal_samples (s : State) : s.raiseIllegal.samples = s.samples := rfl
@[simp] theorem State.raiseIllegal_operands (s : State) : s.raiseIllegal.operands = s.operands := rfl
@[simp] theorem State.raiseIllegal_snap (s : State) : s.raiseIllegal.snap = s.snap := rfl
@[simp] theorem State.raiseIllegal_dcavg (s : State) : s.raiseIllegal.dcavg = s.dcavg := rfl
@[simp] theorem State.raiseIllegal_acavg (s : State) : s.raiseIllegal.acavg = s.acavg := rfl
@[simp] theorem State.raiseIllegal_rms (s : State) : s.raiseIllegal.rms = s.rms := rfl
@[simp] theorem State.raiseIllegal_piv (s : State) : s.raiseIllegal.piv = s.piv := rfl
@[simp] theorem State.raiseIllegal_pic (s : State) : s.raiseIllegal.pic = s.pic := rfl
@[simp] theorem State.raiseIllegal_scal (s : State) : s.raiseIllegal.scal = s.scal := rfl
@[simp] theorem State.raiseIllegal_cfg (s : State) : s.raiseIllegal.cfg = s.cfg := rfl
@[simp] theorem State.raiseIllegal_params (s : State) : s.raiseIllegal.params = s.params := rfl
@[simp] theorem State.raiseIllegal_port (s : State) : s.raiseIllegal.port = s.port := rfl
@[simp] theorem State.raiseIllegal_calAnswers (s : State) : s.raiseIllegal.calAnswers = s.calAnswers := rfl
@[simp] theorem State.raiseIllegal_calDraws (s : State) : s.raiseIllegal.calDraws = s.calDraws := rfl
@[simp] theorem State.raiseIllegal_tornDraws (s : State) : s.raiseIllegal.tornDraws = s.tornDraws := rfl
@[simp] theorem State.raiseIllegal_calls (s : State) : s.raiseIllegal.calls = s.calls := rfl
@[simp] theorem State.raiseIllegal_hostReads (s : State) : s.raiseIllegal.hostReads = s.hostReads := rfl
@[simp] theorem State.raiseIllegal_telemetryReads (s : State) : s.raiseIllegal.telemetryReads = s.telemetryReads := rfl

/-! `State.call` -/

@[simp] theorem State.call_ctrl (c : Call) (s : State) : (s.call c).ctrl = s.ctrl := rfl
@[simp] theorem State.call_status (c : Call) (s : State) : (s.call c).status = s.status := rfl
@[simp] theorem State.call_fault (c : Call) (s : State) : (s.call c).fault = s.fault := rfl
@[simp] theorem State.call_duty (c : Call) (s : State) : (s.call c).duty = s.duty := rfl
@[simp] theorem State.call_samples (c : Call) (s : State) : (s.call c).samples = s.samples := rfl
@[simp] theorem State.call_operands (c : Call) (s : State) : (s.call c).operands = s.operands := rfl
@[simp] theorem State.call_snap (c : Call) (s : State) : (s.call c).snap = s.snap := rfl
@[simp] theorem State.call_dcavg (c : Call) (s : State) : (s.call c).dcavg = s.dcavg := rfl
@[simp] theorem State.call_acavg (c : Call) (s : State) : (s.call c).acavg = s.acavg := rfl
@[simp] theorem State.call_rms (c : Call) (s : State) : (s.call c).rms = s.rms := rfl
@[simp] theorem State.call_piv (c : Call) (s : State) : (s.call c).piv = s.piv := rfl
@[simp] theorem State.call_pic (c : Call) (s : State) : (s.call c).pic = s.pic := rfl
@[simp] theorem State.call_scal (c : Call) (s : State) : (s.call c).scal = s.scal := rfl
@[simp] theorem State.call_cfg (c : Call) (s : State) : (s.call c).cfg = s.cfg := rfl
@[simp] theorem State.call_params (c : Call) (s : State) : (s.call c).params = s.params := rfl
@[simp] theorem State.call_port (c : Call) (s : State) : (s.call c).port = s.port := rfl
@[simp] theorem State.call_calAnswers (c : Call) (s : State) : (s.call c).calAnswers = s.calAnswers := rfl
@[simp] theorem State.call_calDraws (c : Call) (s : State) : (s.call c).calDraws = s.calDraws := rfl
@[simp] theorem State.call_tornDraws (c : Call) (s : State) : (s.call c).tornDraws = s.tornDraws := rfl
@[simp] theorem State.call_calls (c : Call) (s : State) : (s.call c).calls = s.calls ++ [c] := rfl
@[simp] theorem State.call_hostReads (c : Call) (s : State) : (s.call c).hostReads = s.hostReads := rfl
@[simp] theorem State.call_telemetryReads (c : Call) (s : State) : (s.call c).telemetryReads = s.telemetryReads := rfl

/-! `State.enableOutputs` -/

@[simp] theorem State.enableOutputs_ctrl (s : State) : s.enableOutputs.ctrl = s.ctrl := rfl
@[simp] theorem State.enableOutputs_status (s : State) : s.enableOutputs.status = { s.status with outen := true } := rfl
@[simp] theorem State.enableOutputs_fault (s : State) : s.enableOutputs.fault = s.fault := rfl
@[simp] theorem State.enableOutputs_duty (s : State) : s.enableOutputs.duty = s.duty := rfl
@[simp] theorem State.enableOutputs_samples (s : State) : s.enableOutputs.samples = s.samples := rfl
@[simp] theorem State.enableOutputs_operands (s : State) : s.enableOutputs.operands = s.operands := rfl
@[simp] theorem State.enableOutputs_snap (s : State) : s.enableOutputs.snap = s.snap := rfl
@[simp] theorem State.enableOutputs_dcavg (s : State) : s.enableOutputs.dcavg = s.dcavg := rfl
@[simp] theorem State.enableOutputs_acavg (s : State) : s.enableOutputs.acavg = s.acavg := rfl
@[simp] theorem State.enableOutputs_rms (s : State) : s.enableOutputs.rms = s.rms := rfl
@[simp] theorem State.enableOutputs_piv (s : State) : s.enableOutputs.piv = s.piv := rfl
@[simp] theorem State.enableOutputs_pic (s : State) : s.enableOutputs.pic = s.pic := rfl
@[simp] theorem State.enableOutputs_scal (s : State) : s.enableOutputs.scal = s.scal := rfl
@[simp] theorem State.enableOutputs_cfg (s : State) : s.enableOutputs.cfg = s.cfg := rfl
@[simp] theorem State.enableOutputs_params (s : State) : s.enableOutputs.params = s.params := rfl
@[simp] theorem State.enableOutputs_port (s : State) : s.enableOutputs.port = s.port := rfl
@[simp] theorem State.enableOutputs_calAnswers (s : State) : s.enableOutputs.calAnswers = s.calAnswers := rfl
@[simp] theorem State.enableOutputs_calDraws (s : State) : s.enableOutputs.calDraws = s.calDraws := rfl
@[simp] theorem State.enableOutputs_tornDraws (s : State) : s.enableOutputs.tornDraws = s.tornDraws := rfl
@[simp] theorem State.enableOutputs_calls (s : State) : s.enableOutputs.calls = s.calls ++ [.enableOutputs] := rfl
@[simp] theorem State.enableOutputs_hostReads (s : State) : s.enableOutputs.hostReads = s.hostReads := rfl
@[simp] theorem State.enableOutputs_telemetryReads (s : State) : s.enableOutputs.telemetryReads = s.telemetryReads := rfl

/-! `State.disableOutputs` -/

@[simp] theorem State.disableOutputs_ctrl (s : State) : s.disableOutputs.ctrl = s.ctrl := rfl
@[simp] theorem State.disableOutputs_status (s : State) : s.disableOutputs.status = { s.status with outen := false } := rfl
@[simp] theorem State.disableOutputs_fault (s : State) : s.disableOutputs.fault = s.fault := rfl
@[simp] theorem State.disableOutputs_duty (s : State) : s.disableOutputs.duty = s.duty := rfl
@[simp] theorem State.disableOutputs_samples (s : State) : s.disableOutputs.samples = s.samples := rfl
@[simp] theorem State.disableOutputs_operands (s : State) : s.disableOutputs.operands = s.operands := rfl
@[simp] theorem State.disableOutputs_snap (s : State) : s.disableOutputs.snap = s.snap := rfl
@[simp] theorem State.disableOutputs_dcavg (s : State) : s.disableOutputs.dcavg = s.dcavg := rfl
@[simp] theorem State.disableOutputs_acavg (s : State) : s.disableOutputs.acavg = s.acavg := rfl
@[simp] theorem State.disableOutputs_rms (s : State) : s.disableOutputs.rms = s.rms := rfl
@[simp] theorem State.disableOutputs_piv (s : State) : s.disableOutputs.piv = s.piv := rfl
@[simp] theorem State.disableOutputs_pic (s : State) : s.disableOutputs.pic = s.pic := rfl
@[simp] theorem State.disableOutputs_scal (s : State) : s.disableOutputs.scal = s.scal := rfl
@[simp] theorem State.disableOutputs_cfg (s : State) : s.disableOutputs.cfg = s.cfg := rfl
@[simp] theorem State.disableOutputs_params (s : State) : s.disableOutputs.params = s.params := rfl
@[simp] theorem State.disableOutputs_port (s : State) : s.disableOutputs.port = s.port := rfl
@[simp] theorem State.disableOutputs_calAnswers (s : State) : s.disableOutputs.calAnswers = s.calAnswers := rfl
@[simp] theorem State.disableOutputs_calDraws (s : State) : s.disableOutputs.calDraws = s.calDraws := rfl
@[simp] theorem State.disableOutputs_tornDraws (s : State) : s.disableOutputs.tornDraws = s.tornDraws := rfl
@[simp] theorem State.disableOutputs_calls (s : State) : s.disableOutputs.calls = s.calls ++ [.disableOutputs] := rfl
@[simp] theorem State.disableOutputs_hostReads (s : State) : s.disableOutputs.hostReads = s.hostReads := rfl
@[simp] theorem State.disableOutputs_telemetryReads (s : State) : s.disableOutputs.telemetryReads = s.telemetryReads := rfl

/-! `State.calStart` -/

@[simp] theorem State.calStart_ctrl (s : State) : s.calStart.ctrl = s.ctrl := rfl
@[simp] theorem State.calStart_status (s : State) : s.calStart.status = s.status := rfl
@[simp] theorem State.calStart_fault (s : State) : s.calStart.fault = s.fault := rfl
@[simp] theorem State.calStart_duty (s : State) : s.calStart.duty = s.duty := rfl
@[simp] theorem State.calStart_samples (s : State) : s.calStart.samples = s.samples := rfl
@[simp] theorem State.calStart_operands (s : State) : s.calStart.operands = s.operands := rfl
@[simp] theorem State.calStart_snap (s : State) : s.calStart.snap = s.snap := rfl
@[simp] theorem State.calStart_dcavg (s : State) : s.calStart.dcavg = s.dcavg := rfl
@[simp] theorem State.calStart_acavg (s : State) : s.calStart.acavg = s.acavg := rfl
@[simp] theorem State.calStart_rms (s : State) : s.calStart.rms = s.rms := rfl
@[simp] theorem State.calStart_piv (s : State) : s.calStart.piv = s.piv := rfl
@[simp] theorem State.calStart_pic (s : State) : s.calStart.pic = s.pic := rfl
@[simp] theorem State.calStart_scal (s : State) : s.calStart.scal = s.scal := rfl
@[simp] theorem State.calStart_cfg (s : State) : s.calStart.cfg = s.cfg := rfl
@[simp] theorem State.calStart_params (s : State) : s.calStart.params = s.params := rfl
@[simp] theorem State.calStart_port (s : State) : s.calStart.port = s.port := rfl
@[simp] theorem State.calStart_calAnswers (s : State) : s.calStart.calAnswers = s.calAnswers := rfl
@[simp] theorem State.calStart_calDraws (s : State) : s.calStart.calDraws = s.calDraws := rfl
@[simp] theorem State.calStart_tornDraws (s : State) : s.calStart.tornDraws = s.tornDraws := rfl
@[simp] theorem State.calStart_calls (s : State) : s.calStart.calls = s.calls ++ [.calStart] := rfl
@[simp] theorem State.calStart_hostReads (s : State) : s.calStart.hostReads = s.hostReads := rfl
@[simp] theorem State.calStart_telemetryReads (s : State) : s.calStart.telemetryReads = s.telemetryReads := rfl

/-! `State.takeCalAnswer` -/

@[simp] theorem State.takeCalAnswer_ctrl (s : State) : s.takeCalAnswer.ctrl = s.ctrl := by unfold State.takeCalAnswer; split <;> rfl
@[simp] theorem State.takeCalAnswer_status (s : State) : s.takeCalAnswer.status = s.status := by unfold State.takeCalAnswer; split <;> rfl
@[simp] theorem State.takeCalAnswer_fault (s : State) : s.takeCalAnswer.fault = s.fault := by unfold State.takeCalAnswer; split <;> rfl
@[simp] theorem State.takeCalAnswer_duty (s : State) : s.takeCalAnswer.duty = s.duty := by unfold State.takeCalAnswer; split <;> rfl
@[simp] theorem State.takeCalAnswer_samples (s : State) : s.takeCalAnswer.samples = s.samples := by unfold State.takeCalAnswer; split <;> rfl
@[simp] theorem State.takeCalAnswer_operands (s : State) : s.takeCalAnswer.operands = s.operands := by unfold State.takeCalAnswer; split <;> rfl
@[simp] theorem State.takeCalAnswer_snap (s : State) : s.takeCalAnswer.snap = s.snap := by unfold State.takeCalAnswer; split <;> rfl
@[simp] theorem State.takeCalAnswer_dcavg (s : State) : s.takeCalAnswer.dcavg = s.dcavg := by unfold State.takeCalAnswer; split <;> rfl
@[simp] theorem State.takeCalAnswer_acavg (s : State) : s.takeCalAnswer.acavg = s.acavg := by unfold State.takeCalAnswer; split <;> rfl
@[simp] theorem State.takeCalAnswer_rms (s : State) : s.takeCalAnswer.rms = s.rms := by unfold State.takeCalAnswer; split <;> rfl
@[simp] theorem State.takeCalAnswer_piv (s : State) : s.takeCalAnswer.piv = s.piv := by unfold State.takeCalAnswer; split <;> rfl
@[simp] theorem State.takeCalAnswer_pic (s : State) : s.takeCalAnswer.pic = s.pic := by unfold State.takeCalAnswer; split <;> rfl
@[simp] theorem State.takeCalAnswer_scal (s : State) : s.takeCalAnswer.scal = s.scal := by unfold State.takeCalAnswer; split <;> rfl
@[simp] theorem State.takeCalAnswer_cfg (s : State) : s.takeCalAnswer.cfg = s.cfg := by unfold State.takeCalAnswer; split <;> rfl
@[simp] theorem State.takeCalAnswer_params (s : State) : s.takeCalAnswer.params = s.params := by unfold State.takeCalAnswer; split <;> rfl
@[simp] theorem State.takeCalAnswer_port (s : State) : s.takeCalAnswer.port = s.port := by unfold State.takeCalAnswer; split <;> rfl
@[simp] theorem State.takeCalAnswer_tornDraws (s : State) : s.takeCalAnswer.tornDraws = s.tornDraws := by unfold State.takeCalAnswer; split <;> rfl
@[simp] theorem State.takeCalAnswer_calls (s : State) : s.takeCalAnswer.calls = s.calls := by unfold State.takeCalAnswer; split <;> rfl
@[simp] theorem State.takeCalAnswer_hostReads (s : State) : s.takeCalAnswer.hostReads = s.hostReads := by unfold State.takeCalAnswer; split <;> rfl
@[simp] theorem State.takeCalAnswer_telemetryReads (s : State) : s.takeCalAnswer.telemetryReads = s.telemetryReads := by unfold State.takeCalAnswer; split <;> rfl

/-! `State.calUpdate` -/

@[simp] theorem State.calUpdate_ctrl (s : State) : s.calUpdate.ctrl = s.ctrl := by simp [State.calUpdate]
@[simp] theorem State.calUpdate_status (s : State) : s.calUpdate.status = { s.status with calrdy := s.calAnswer.ready } := by simp [State.calUpdate]
@[simp] theorem State.calUpdate_fault (s : State) : s.calUpdate.fault = s.fault := by simp [State.calUpdate]
@[simp] theorem State.calUpdate_duty (s : State) : s.calUpdate.duty = s.duty := by simp [State.calUpdate]
@[simp] theorem State.calUpdate_samples (s : State) : s.calUpdate.samples = s.samples := by simp [State.calUpdate]
@[simp] theorem State.calUpdate_operands (s : State) : s.calUpdate.operands = s.operands := by simp [State.calUpdate]
@[simp] theorem State.calUpdate_snap (s : State) : s.calUpdate.snap = { s.snap with ilOffset := s.calAnswer.offset } := by simp [State.calUpdate]
@[simp] theorem State.calUpdate_dcavg (s : State) : s.calUpdate.dcavg = s.dcavg := by simp [State.calUpdate]
@[simp] theorem State.calUpdate_acavg (s : State) : s.calUpdate.acavg = s.acavg := by simp [State.calUpdate]
@[simp] theorem State.calUpdate_rms (s : State) : s.calUpdate.rms = s.rms := by simp [State.calUpdate]
@[simp] theorem State.calUpdate_piv (s : State) : s.calUpdate.piv = s.piv := by simp [State.calUpdate]
@[simp] theorem State.calUpdate_pic (s : State) : s.calUpdate.pic = s.pic := by simp [State.calUpdate]
@[simp] theorem State.calUpdate_scal (s : State) : s.calUpdate.scal = s.scal := by simp [State.calUpdate]
@[simp] theorem State.calUpdate_cfg (s : State) : s.calUpdate.cfg = s.cfg := by simp [State.calUpdate]
@[simp] theorem State.calUpdate_params (s : State) : s.calUpdate.params = s.params := by simp [State.calUpdate]
@[simp] theorem State.calUpdate_port (s : State) : s.calUpdate.port = s.port := by simp [State.calUpdate]
@[simp] theorem State.calUpdate_calAnswers (s : State) : s.calUpdate.calAnswers = s.takeCalAnswer.calAnswers := rfl
@[simp] theorem State.calUpdate_calDraws (s : State) : s.calUpdate.calDraws = s.takeCalAnswer.calDraws := rfl
@[simp] theorem State.calUpdate_tornDraws (s : State) : s.calUpdate.tornDraws = s.tornDraws := by simp [State.calUpdate]
@[simp] theorem State.calUpdate_calls (s : State) : s.calUpdate.calls = s.calls ++ [.calUpdate] := by simp [State.calUpdate]
@[simp] theorem State.calUpdate_hostReads (s : State) : s.calUpdate.hostReads = s.hostReads := by simp [State.calUpdate]
@[simp] theorem State.calUpdate_telemetryReads (s : State) : s.calUpdate.telemetryReads = s.telemetryReads := by simp [State.calUpdate]

/-! `State.latch` -/

@[simp] theorem State.latch_ctrl (s : State) : s.latch.ctrl = s.ctrl := rfl
@[simp] theorem State.latch_status (s : State) : s.latch.status = s.status := rfl
@[simp] theorem State.latch_fault (s : State) : s.latch.fault = s.fault := rfl
@[simp] theorem State.latch_duty (s : State) : s.latch.duty = s.duty := rfl
@[simp] theorem State.latch_samples (s : State) : s.latch.samples = s.samples := rfl
@[simp] theorem State.latch_operands (s : State) : s.latch.operands = s.operands := rfl
@[simp] theorem State.latch_snap (s : State) : s.latch.snap = { s.snap with vdc := s.samples.vdc, vac := s.samples.vac, il := s.samples.il } := rfl
@[simp] theorem State.latch_dcavg (s : State) : s.latch.dcavg = s.dcavg := rfl
@[simp] theorem State.latch_acavg (s : State) : s.latch.acavg = s.acavg := rfl
@[simp] theorem State.latch_rms (s : State) : s.latch.rms = s.rms := rfl
@[simp] theorem State.latch_piv (s : State) : s.latch.piv = s.piv := rfl
@[simp] theorem State.latch_pic (s : State) : s.latch.pic = s.pic := rfl
@[simp] theorem State.latch_scal (s : State) : s.latch.scal = s.scal := rfl
@[simp] theorem State.latch_cfg (s : State) : s.latch.cfg = s.cfg := rfl
@[simp] theorem State.latch_params (s : State) : s.latch.params = s.params := rfl
@[simp] theorem State.latch_port (s : State) : s.latch.port = s.port := rfl
@[simp] theorem State.latch_calAnswers (s : State) : s.latch.calAnswers = s.calAnswers := rfl
@[simp] theorem State.latch_calDraws (s : State) : s.latch.calDraws = s.calDraws := rfl
@[simp] theorem State.latch_tornDraws (s : State) : s.latch.tornDraws = s.tornDraws := rfl
@[simp] theorem State.latch_calls (s : State) : s.latch.calls = s.calls := rfl
@[simp] theorem State.latch_hostReads (s : State) : s.latch.hostReads = s.hostReads := rfl
@[simp] theorem State.latch_telemetryReads (s : State) : s.latch.telemetryReads = s.telemetryReads := rfl

/-! `State.setPhase` -/

@[simp] theorem State.setPhase_ctrl (p : Phase) (s : State) : (s.setPhase p).ctrl = s.ctrl := rfl
@[simp] theorem State.setPhase_status (p : Phase) (s : State) : (s.setPhase p).status = { s.status with state := p.code } := rfl
@[simp] theorem State.setPhase_fault (p : Phase) (s : State) : (s.setPhase p).fault = s.fault := rfl
@[simp] theorem State.setPhase_duty (p : Phase) (s : State) : (s.setPhase p).duty = s.duty := rfl
@[simp] theorem State.setPhase_samples (p : Phase) (s : State) : (s.setPhase p).samples = s.samples := rfl
@[simp] theorem State.setPhase_operands (p : Phase) (s : State) : (s.setPhase p).operands = s.operands := rfl
@[simp] theorem State.setPhase_snap (p : Phase) (s : State) : (s.setPhase p).snap = s.snap := rfl
@[simp] theorem State.setPhase_dcavg (p : Phase) (s : State) : (s.setPhase p).dcavg = s.dcavg := rfl
@[simp] theorem State.setPhase_acavg (p : Phase) (s : State) : (s.setPhase p).acavg = s.acavg := rfl
@[simp] theorem State.setPhase_rms (p : Phase) (s : State) : (s.setPhase p).rms = s.rms := rfl
@[simp] theorem State.setPhase_piv (p : Phase) (s : State) : (s.setPhase p).piv = s.piv := rfl
@[simp] theorem State.setPhase_pic (p : Phase) (s : State) : (s.setPhase p).pic = s.pic := rfl
@[simp] theorem State.setPhase_scal (p : Phase) (s : State) : (s.setPhase p).scal = s.scal := rfl
@[simp] theorem State.setPhase_cfg (p : Phase) (s : State) : (s.setPhase p).cfg = s.cfg := rfl
@[simp] theorem State.setPhase_params (p : Phase) (s : State) : (s.setPhase p).params = s.params := rfl
@[simp] theorem State.setPhase_port (p : Phase) (s : State) : (s.setPhase p).port = s.port := rfl
@[simp] theorem State.setPhase_calAnswers (p : Phase) (s : State) : (s.setPhase p).calAnswers = s.calAnswers := rfl
@[simp] theorem State.setPhase_calDraws (p : Phase) (s : State) : (s.setPhase p).calDraws = s.calDraws := rfl
@[simp] theorem State.setPhase_tornDraws (p : Phase) (s : State) : (s.setPhase p).tornDraws = s.tornDraws := rfl
@[simp] theorem State.setPhase_calls (p : Phase) (s : State) : (s.setPhase p).calls = s.calls := rfl
@[simp] theorem State.setPhase_hostReads (p : Phase) (s : State) : (s.setPhase p).hostReads = s.hostReads := rfl
@[simp] theorem State.setPhase_telemetryReads (p : Phase) (s : State) : (s.setPhase p).telemetryReads = s.telemetryReads := rfl

/-! `State.faultEntry` -/

@[simp] theorem State.faultEntry_ctrl (s : State) : s.faultEntry.ctrl = s.ctrl := rfl
@[simp] theorem State.faultEntry_status (s : State) : s.faultEntry.status = { s.status with state := Phase.fault.code, outen := false } := rfl
@[simp] theorem State.faultEntry_fault (s : State) : s.faultEntry.fault = s.fault := rfl
@[simp] theorem State.faultEntry_duty (s : State) : s.faultEntry.duty = 0 := rfl
@[simp] theorem State.faultEntry_samples (s : State) : s.faultEntry.samples = s.samples := rfl
@[simp] theorem State.faultEntry_operands (s : State) : s.faultEntry.operands = s.operands := rfl
@[simp] theorem State.faultEntry_snap (s : State) : s.faultEntry.snap = s.snap := rfl
@[simp] theorem State.faultEntry_dcavg (s : State) : s.faultEntry.dcavg = s.dcavg := rfl
@[simp] theorem State.faultEntry_acavg (s : State) : s.faultEntry.acavg = s.acavg := rfl
@[simp] theorem State.faultEntry_rms (s : State) : s.faultEntry.rms = s.rms := rfl
@[simp] theorem State.faultEntry_piv (s : State) : s.faultEntry.piv = s.piv := rfl
@[simp] theorem State.faultEntry_pic (s : State) : s.faultEntry.pic = s.pic := rfl
@[simp] theorem State.faultEntry_scal (s : State) : s.faultEntry.scal = s.scal := rfl
@[simp] theorem State.faultEntry_cfg (s : State) : s.faultEntry.cfg = s.cfg := rfl
@[simp] theorem State.faultEntry_params (s : State) : s.faultEntry.params = s.params := rfl
@[simp] theorem State.faultEntry_port (s : State) : s.faultEntry.port = s.port := rfl
@[simp] theorem State.faultEntry_calAnswers (s : State) : s.faultEntry.calAnswers = s.calAnswers := rfl
@[simp] theorem State.faultEntry_calDraws (s : State) : s.faultEntry.calDraws = s.calDraws := rfl
@[simp] theorem State.faultEntry_tornDraws (s : State) : s.faultEntry.tornDraws = s.tornDraws := rfl
@[simp] theorem State.faultEntry_calls (s : State) : s.faultEntry.calls = s.calls ++ [.disableOutputs] := rfl
@[simp] theorem State.faultEntry_hostReads (s : State) : s.faultEntry.hostReads = s.hostReads := rfl
@[simp] theorem State.faultEntry_telemetryReads (s : State) : s.faultEntry.telemetryReads = s.telemetryReads := rfl

/-! `State.faultReturn` -/

@[simp] theorem State.faultReturn_ctrl (s : State) : s.faultReturn.ctrl = s.ctrl := rfl
@[simp] theorem State.faultReturn_status (s : State) : s.faultReturn.status = { s.status with state := Phase.ctrlRun.code, outen := true } := rfl
@[simp] theorem State.faultReturn_fault (s : State) : s.faultReturn.fault = s.fault := rfl
@[simp] theorem State.faultReturn_duty (s : State) : s.faultReturn.duty = s.duty := rfl
@[simp] theorem State.faultReturn_samples (s : State) : s.faultReturn.samples = s.samples := rfl
@[simp] theorem State.faultReturn_operands (s : State) : s.faultReturn.operands = s.operands := rfl
@[simp] theorem State.faultReturn_snap (s : State) : s.faultReturn.snap = s.snap := rfl
@[simp] theorem State.faultReturn_dcavg (s : State) : s.faultReturn.dcavg = s.dcavg := rfl
@[simp] theorem State.faultReturn_acavg (s : State) : s.faultReturn.acavg = s.acavg := rfl
@[simp] theorem State.faultReturn_rms (s : State) : s.faultReturn.rms = s.rms := rfl
@[simp] theorem State.faultReturn_piv (s : State) : s.faultReturn.piv = { s.piv with integ := 0, ref := s.dcavg.out } := rfl
@[simp] theorem State.faultReturn_pic (s : State) : s.faultReturn.pic = { s.pic with integ := 0 } := rfl
@[simp] theorem State.faultReturn_scal (s : State) : s.faultReturn.scal = s.scal := rfl
@[simp] theorem State.faultReturn_cfg (s : State) : s.faultReturn.cfg = s.cfg := rfl
@[simp] theorem State.faultReturn_params (s : State) : s.faultReturn.params = s.params := rfl
@[simp] theorem State.faultReturn_port (s : State) : s.faultReturn.port = s.port := rfl
@[simp] theorem State.faultReturn_calAnswers (s : State) : s.faultReturn.calAnswers = s.calAnswers := rfl
@[simp] theorem State.faultReturn_calDraws (s : State) : s.faultReturn.calDraws = s.calDraws := rfl
@[simp] theorem State.faultReturn_tornDraws (s : State) : s.faultReturn.tornDraws = s.tornDraws := rfl
@[simp] theorem State.faultReturn_calls (s : State) : s.faultReturn.calls = s.calls ++ [.enableOutputs] := rfl
@[simp] theorem State.faultReturn_hostReads (s : State) : s.faultReturn.hostReads = s.hostReads := rfl
@[simp] theorem State.faultReturn_telemetryReads (s : State) : s.faultReturn.telemetryReads = s.telemetryReads := rfl

/-! `State.setRes` -/

@[simp] theorem State.setRes_ctrl (v : W32) (s : State) : (s.setRes v).ctrl = s.ctrl := rfl
@[simp] theorem State.setRes_status (v : W32) (s : State) : (s.setRes v).status = s.status := rfl
@[simp] theorem State.setRes_fault (v : W32) (s : State) : (s.setRes v).fault = s.fault := rfl
@[simp] theorem State.setRes_duty (v : W32) (s : State) : (s.setRes v).duty = s.duty := rfl
@[simp] theorem State.setRes_samples (v : W32) (s : State) : (s.setRes v).samples = s.samples := rfl
@[simp] theorem State.setRes_operands (v : W32) (s : State) : (s.setRes v).operands = { s.operands with res := v } := rfl
@[simp] theorem State.setRes_snap (v : W32) (s : State) : (s.setRes v).snap = s.snap := rfl
@[simp] theorem State.setRes_dcavg (v : W32) (s : State) : (s.setRes v).dcavg = s.dcavg := rfl
@[simp] theorem State.setRes_acavg (v : W32) (s : State) : (s.setRes v).acavg = s.acavg := rfl
@[simp] theorem State.setRes_rms (v : W32) (s : State) : (s.setRes v).rms = s.rms := rfl
@[simp] theorem State.setRes_piv (v : W32) (s : State) : (s.setRes v).piv = s.piv := rfl
@[simp] theorem State.setRes_pic (v : W32) (s : State) : (s.setRes v).pic = s.pic := rfl
@[simp] theorem State.setRes_scal (v : W32) (s : State) : (s.setRes v).scal = s.scal := rfl
@[simp] theorem State.setRes_cfg (v : W32) (s : State) : (s.setRes v).cfg = s.cfg := rfl
@[simp] theorem State.setRes_params (v : W32) (s : State) : (s.setRes v).params = s.params := rfl
@[simp] theorem State.setRes_port (v : W32) (s : State) : (s.setRes v).port = s.port := rfl
@[simp] theorem State.setRes_calAnswers (v : W32) (s : State) : (s.setRes v).calAnswers = s.calAnswers := rfl
@[simp] theorem State.setRes_calDraws (v : W32) (s : State) : (s.setRes v).calDraws = s.calDraws := rfl
@[simp] theorem State.setRes_tornDraws (v : W32) (s : State) : (s.setRes v).tornDraws = s.tornDraws := rfl
@[simp] theorem State.setRes_calls (v : W32) (s : State) : (s.setRes v).calls = s.calls := rfl
@[simp] theorem State.setRes_hostReads (v : W32) (s : State) : (s.setRes v).hostReads = s.hostReads := rfl
@[simp] theorem State.setRes_telemetryReads (v : W32) (s : State) : (s.setRes v).telemetryReads = s.telemetryReads := rfl

/-! `State.setRmsReady` -/

@[simp] theorem State.setRmsReady_ctrl (b : Bool) (s : State) : (s.setRmsReady b).ctrl = s.ctrl := rfl
@[simp] theorem State.setRmsReady_status (b : Bool) (s : State) : (s.setRmsReady b).status = { s.status with rmsrdy := b } := rfl
@[simp] theorem State.setRmsReady_fault (b : Bool) (s : State) : (s.setRmsReady b).fault = s.fault := rfl
@[simp] theorem State.setRmsReady_duty (b : Bool) (s : State) : (s.setRmsReady b).duty = s.duty := rfl
@[simp] theorem State.setRmsReady_samples (b : Bool) (s : State) : (s.setRmsReady b).samples = s.samples := rfl
@[simp] theorem State.setRmsReady_operands (b : Bool) (s : State) : (s.setRmsReady b).operands = s.operands := rfl
@[simp] theorem State.setRmsReady_snap (b : Bool) (s : State) : (s.setRmsReady b).snap = s.snap := rfl
@[simp] theorem State.setRmsReady_dcavg (b : Bool) (s : State) : (s.setRmsReady b).dcavg = s.dcavg := rfl
@[simp] theorem State.setRmsReady_acavg (b : Bool) (s : State) : (s.setRmsReady b).acavg = s.acavg := rfl
@[simp] theorem State.setRmsReady_rms (b : Bool) (s : State) : (s.setRmsReady b).rms = s.rms := rfl
@[simp] theorem State.setRmsReady_piv (b : Bool) (s : State) : (s.setRmsReady b).piv = s.piv := rfl
@[simp] theorem State.setRmsReady_pic (b : Bool) (s : State) : (s.setRmsReady b).pic = s.pic := rfl
@[simp] theorem State.setRmsReady_scal (b : Bool) (s : State) : (s.setRmsReady b).scal = s.scal := rfl
@[simp] theorem State.setRmsReady_cfg (b : Bool) (s : State) : (s.setRmsReady b).cfg = s.cfg := rfl
@[simp] theorem State.setRmsReady_params (b : Bool) (s : State) : (s.setRmsReady b).params = s.params := rfl
@[simp] theorem State.setRmsReady_port (b : Bool) (s : State) : (s.setRmsReady b).port = s.port := rfl
@[simp] theorem State.setRmsReady_calAnswers (b : Bool) (s : State) : (s.setRmsReady b).calAnswers = s.calAnswers := rfl
@[simp] theorem State.setRmsReady_calDraws (b : Bool) (s : State) : (s.setRmsReady b).calDraws = s.calDraws := rfl
@[simp] theorem State.setRmsReady_tornDraws (b : Bool) (s : State) : (s.setRmsReady b).tornDraws = s.tornDraws := rfl
@[simp] theorem State.setRmsReady_calls (b : Bool) (s : State) : (s.setRmsReady b).calls = s.calls := rfl
@[simp] theorem State.setRmsReady_hostReads (b : Bool) (s : State) : (s.setRmsReady b).hostReads = s.hostReads := rfl
@[simp] theorem State.setRmsReady_telemetryReads (b : Bool) (s : State) : (s.setRmsReady b).telemetryReads = s.telemetryReads := rfl

/-! `State.faultSet` -/

@[simp] theorem State.faultSet_ctrl (b : W16) (s : State) : (s.faultSet b).ctrl = s.ctrl := rfl
@[simp] theorem State.faultSet_status (b : W16) (s : State) : (s.faultSet b).status = s.status := rfl
@[simp] theorem State.faultSet_duty (b : W16) (s : State) : (s.faultSet b).duty = s.duty := rfl
@[simp] theorem State.faultSet_samples (b : W16) (s : State) : (s.faultSet b).samples = s.samples := rfl
@[simp] theorem State.faultSet_operands (b : W16) (s : State) : (s.faultSet b).operands = s.operands := rfl
@[simp] theorem State.faultSet_snap (b : W16) (s : State) : (s.faultSet b).snap = s.snap := rfl
@[simp] theorem State.faultSet_dcavg (b : W16) (s : State) : (s.faultSet b).dcavg = s.dcavg := rfl
@[simp] theorem State.faultSet_acavg (b : W16) (s : State) : (s.faultSet b).acavg = s.acavg := rfl
@[simp] theorem State.faultSet_rms (b : W16) (s : State) : (s.faultSet b).rms = s.rms := rfl
@[simp] theorem State.faultSet_piv (b : W16) (s : State) : (s.faultSet b).piv = s.piv := rfl
@[simp] theorem State.faultSet_pic (b : W16) (s : State) : (s.faultSet b).pic = s.pic := rfl
@[simp] theorem State.faultSet_scal (b : W16) (s : State) : (s.faultSet b).scal = s.scal := rfl
@[simp] theorem State.faultSet_cfg (b : W16) (s : State) : (s.faultSet b).cfg = s.cfg := rfl
@[simp] theorem State.faultSet_params (b : W16) (s : State) : (s.faultSet b).params = s.params := rfl
@[simp] theorem State.faultSet_port (b : W16) (s : State) : (s.faultSet b).port = s.port := rfl
@[simp] theorem State.faultSet_calAnswers (b : W16) (s : State) : (s.faultSet b).calAnswers = s.calAnswers := rfl
@[simp] theorem State.faultSet_calDraws (b : W16) (s : State) : (s.faultSet b).calDraws = s.calDraws := rfl
@[simp] theorem State.faultSet_tornDraws (b : W16) (s : State) : (s.faultSet b).tornDraws = s.tornDraws := rfl
@[simp] theorem State.faultSet_calls (b : W16) (s : State) : (s.faultSet b).calls = s.calls := rfl
@[simp] theorem State.faultSet_hostReads (b : W16) (s : State) : (s.faultSet b).hostReads = s.hostReads := rfl
@[simp] theorem State.faultSet_telemetryReads (b : W16) (s : State) : (s.faultSet b).telemetryReads = s.telemetryReads := rfl

/-! `State.faultClear` -/

@[simp] theorem State.faultClear_ctrl (b : W16) (s : State) : (s.faultClear b).ctrl = s.ctrl := rfl
@[simp] theorem State.faultClear_status (b : W16) (s : State) : (s.faultClear b).status = s.status := rfl
@[simp] theorem State.faultClear_fault (b : W16) (s : State) : (s.faultClear b).fault = s.fault &&& ~~~b := rfl
@[simp] theorem State.faultClear_duty (b : W16) (s : State) : (s.faultClear b).duty = s.duty := rfl
@[simp] theorem State.faultClear_samples (b : W16) (s : State) : (s.faultClear b).samples = s.samples := rfl
@[simp] theorem State.faultClear_operands (b : W16) (s : State) : (s.faultClear b).operands = s.operands := rfl
@[simp] theorem State.faultClear_snap (b : W16) (s : State) : (s.faultClear b).snap = s.snap := rfl
@[simp] theorem State.faultClear_dcavg (b : W16) (s : State) : (s.faultClear b).dcavg = s.dcavg := rfl
@[simp] theorem State.faultClear_acavg (b : W16) (s : State) : (s.faultClear b).acavg = s.acavg := rfl
@[simp] theorem State.faultClear_rms (b : W16) (s : State) : (s.faultClear b).rms = s.rms := rfl
@[simp] theorem State.faultClear_piv (b : W16) (s : State) : (s.faultClear b).piv = s.piv := rfl
@[simp] theorem State.faultClear_pic (b : W16) (s : State) : (s.faultClear b).pic = s.pic := rfl
@[simp] theorem State.faultClear_scal (b : W16) (s : State) : (s.faultClear b).scal = s.scal := rfl
@[simp] theorem State.faultClear_cfg (b : W16) (s : State) : (s.faultClear b).cfg = s.cfg := rfl
@[simp] theorem State.faultClear_params (b : W16) (s : State) : (s.faultClear b).params = s.params := rfl
@[simp] theorem State.faultClear_port (b : W16) (s : State) : (s.faultClear b).port = s.port := rfl
@[simp] theorem State.faultClear_calAnswers (b : W16) (s : State) : (s.faultClear b).calAnswers = s.calAnswers := rfl
@[simp] theorem State.faultClear_calDraws (b : W16) (s : State) : (s.faultClear b).calDraws = s.calDraws := rfl
@[simp] theorem State.faultClear_tornDraws (b : W16) (s : State) : (s.faultClear b).tornDraws = s.tornDraws := rfl
@[simp] theorem State.faultClear_calls (b : W16) (s : State) : (s.faultClear b).calls = s.calls := rfl
@[simp] theorem State.faultClear_hostReads (b : W16) (s : State) : (s.faultClear b).hostReads = s.hostReads := rfl
@[simp] theorem State.faultClear_telemetryReads (b : W16) (s : State) : (s.faultClear b).telemetryReads = s.telemetryReads := rfl

/-! `State.setMafReady` -/

@[simp] theorem State.setMafReady_ctrl (u : MafSel) (b : Bool) (s : State) : (s.setMafReady u b).ctrl = s.ctrl := by cases u <;> rfl
@[simp] theorem State.setMafReady_fault (u : MafSel) (b : Bool) (s : State) : (s.setMafReady u b).fault = s.fault := by cases u <;> rfl
@[simp] theorem State.setMafReady_duty (u : MafSel) (b : Bool) (s : State) : (s.setMafReady u b).duty = s.duty := by cases u <;> rfl
@[simp] theorem State.setMafReady_samples (u : MafSel) (b : Bool) (s : State) : (s.setMafReady u b).samples = s.samples := by cases u <;> rfl
@[simp] theorem State.setMafReady_operands (u : MafSel) (b : Bool) (s : State) : (s.setMafReady u b).operands = s.operands := by cases u <;> rfl
@[simp] theorem State.setMafReady_snap (u : MafSel) (b : Bool) (s : State) : (s.setMafReady u b).snap = s.snap := by cases u <;> rfl
@[simp] theorem State.setMafReady_dcavg (u : MafSel) (b : Bool) (s : State) : (s.setMafReady u b).dcavg = s.dcavg := by cases u <;> rfl
@[simp] theorem State.setMafReady_acavg (u : MafSel) (b : Bool) (s : State) : (s.setMafReady u b).acavg = s.acavg := by cases u <;> rfl
@[simp] theorem State.setMafReady_rms (u : MafSel) (b : Bool) (s : State) : (s.setMafReady u b).rms = s.rms := by cases u <;> rfl
@[simp] theorem State.setMafReady_piv (u : MafSel) (b : Bool) (s : State) : (s.setMafReady u b).piv = s.piv := by cases u <;> rfl
@[simp] theorem State.setMafReady_pic (u : MafSel) (b : Bool) (s : State) : (s.setMafReady u b).pic = s.pic := by cases u <;> rfl
@[simp] theorem State.setMafReady_scal (u : MafSel) (b : Bool) (s : State) : (s.setMafReady u b).scal = s.scal := by cases u <;> rfl
@[simp] theorem State.setMafReady_cfg (u : MafSel) (b : Bool) (s : State) : (s.setMafReady u b).cfg = s.cfg := by cases u <;> rfl
@[simp] theorem State.setMafReady_params (u : MafSel) (b : Bool) (s : State) : (s.setMafReady u b).params = s.params := by cases u <;> rfl
@[simp] theorem State.setMafReady_port (u : MafSel) (b : Bool) (s : State) : (s.setMafReady u b).port = s.port := by cases u <;> rfl
@[simp] theorem State.setMafReady_calAnswers (u : MafSel) (b : Bool) (s : State) : (s.setMafReady u b).calAnswers = s.calAnswers := by cases u <;> rfl
@[simp] theorem State.setMafReady_calDraws (u : MafSel) (b : Bool) (s : State) : (s.setMafReady u b).calDraws = s.calDraws := by cases u <;> rfl
@[simp] theorem State.setMafReady_tornDraws (u : MafSel) (b : Bool) (s : State) : (s.setMafReady u b).tornDraws = s.tornDraws := by cases u <;> rfl
@[simp] theorem State.setMafReady_calls (u : MafSel) (b : Bool) (s : State) : (s.setMafReady u b).calls = s.calls := by cases u <;> rfl
@[simp] theorem State.setMafReady_hostReads (u : MafSel) (b : Bool) (s : State) : (s.setMafReady u b).hostReads = s.hostReads := by cases u <;> rfl
@[simp] theorem State.setMafReady_telemetryReads (u : MafSel) (b : Bool) (s : State) : (s.setMafReady u b).telemetryReads = s.telemetryReads := by cases u <;> rfl

/-! `State.setMaf` -/

@[simp] theorem State.setMaf_ctrl (u : MafSel) (m : MafUnit) (s : State) : (s.setMaf u m).ctrl = s.ctrl := by cases u <;> rfl
@[simp] theorem State.setMaf_status (u : MafSel) (m : MafUnit) (s : State) : (s.setMaf u m).status = s.status := by cases u <;> rfl
@[simp] theorem State.setMaf_fault (u : MafSel) (m : MafUnit) (s : State) : (s.setMaf u m).fault = s.fault := by cases u <;> rfl
@[simp] theorem State.setMaf_duty (u : MafSel) (m : MafUnit) (s : State) : (s.setMaf u m).duty = s.duty := by cases u <;> rfl
@[simp] theorem State.setMaf_samples (u : MafSel) (m : MafUnit) (s : State) : (s.setMaf u m).samples = s.samples := by cases u <;> rfl
@[simp] theorem State.setMaf_operands (u : MafSel) (m : MafUnit) (s : State) : (s.setMaf u m).operands = s.operands := by cases u <;> rfl
@[simp] theorem State.setMaf_snap (u : MafSel) (m : MafUnit) (s : State) : (s.setMaf u m).snap = s.snap := by cases u <;> rfl
@[simp] theorem State.setMaf_rms (u : MafSel) (m : MafUnit) (s : State) : (s.setMaf u m).rms = s.rms := by cases u <;> rfl
@[simp] theorem State.setMaf_piv (u : MafSel) (m : MafUnit) (s : State) : (s.setMaf u m).piv = s.piv := by cases u <;> rfl
@[simp] theorem State.setMaf_pic (u : MafSel) (m : MafUnit) (s : State) : (s.setMaf u m).pic = s.pic := by cases u <;> rfl
@[simp] theorem State.setMaf_scal (u : MafSel) (m : MafUnit) (s : State) : (s.setMaf u m).scal = s.scal := by cases u <;> rfl
@[simp] theorem State.setMaf_cfg (u : MafSel) (m : MafUnit) (s : State) : (s.setMaf u m).cfg = s.cfg := by cases u <;> rfl
@[simp] theorem State.setMaf_params (u : MafSel) (m : MafUnit) (s : State) : (s.setMaf u m).params = s.params := by cases u <;> rfl
@[simp] theorem State.setMaf_port (u : MafSel) (m : MafUnit) (s : State) : (s.setMaf u m).port = s.port := by cases u <;> rfl
@[simp] theorem State.setMaf_calAnswers (u : MafSel) (m : MafUnit) (s : State) : (s.setMaf u m).calAnswers = s.calAnswers := by cases u <;> rfl
@[simp] theorem State.setMaf_calDraws (u : MafSel) (m : MafUnit) (s : State) : (s.setMaf u m).calDraws = s.calDraws := by cases u <;> rfl
@[simp] theorem State.setMaf_tornDraws (u : MafSel) (m : MafUnit) (s : State) : (s.setMaf u m).tornDraws = s.tornDraws := by cases u <;> rfl
@[simp] theorem State.setMaf_calls (u : MafSel) (m : MafUnit) (s : State) : (s.setMaf u m).calls = s.calls := by cases u <;> rfl
@[simp] theorem State.setMaf_hostReads (u : MafSel) (m : MafUnit) (s : State) : (s.setMaf u m).hostReads = s.hostReads := by cases u <;> rfl
@[simp] theorem State.setMaf_telemetryReads (u : MafSel) (m : MafUnit) (s : State) : (s.setMaf u m).telemetryReads = s.telemetryReads := by cases u <;> rfl

/-! `State.setPi` -/

@[simp] theorem State.setPi_ctrl (p : PiSel) (v : PiUnit) (s : State) : (s.setPi p v).ctrl = s.ctrl := by cases p <;> rfl
@[simp] theorem State.setPi_status (p : PiSel) (v : PiUnit) (s : State) : (s.setPi p v).status = s.status := by cases p <;> rfl
@[simp] theorem State.setPi_fault (p : PiSel) (v : PiUnit) (s : State) : (s.setPi p v).fault = s.fault := by cases p <;> rfl
@[simp] theorem State.setPi_duty (p : PiSel) (v : PiUnit) (s : State) : (s.setPi p v).duty = s.duty := by cases p <;> rfl
@[simp] theorem State.setPi_samples (p : PiSel) (v : PiUnit) (s : State) : (s.setPi p v).samples = s.samples := by cases p <;> rfl
@[simp] theorem State.setPi_operands (p : PiSel) (v : PiUnit) (s : State) : (s.setPi p v).operands = s.operands := by cases p <;> rfl
@[simp] theorem State.setPi_snap (p : PiSel) (v : PiUnit) (s : State) : (s.setPi p v).snap = s.snap := by cases p <;> rfl
@[simp] theorem State.setPi_dcavg (p : PiSel) (v : PiUnit) (s : State) : (s.setPi p v).dcavg = s.dcavg := by cases p <;> rfl
@[simp] theorem State.setPi_acavg (p : PiSel) (v : PiUnit) (s : State) : (s.setPi p v).acavg = s.acavg := by cases p <;> rfl
@[simp] theorem State.setPi_rms (p : PiSel) (v : PiUnit) (s : State) : (s.setPi p v).rms = s.rms := by cases p <;> rfl
@[simp] theorem State.setPi_scal (p : PiSel) (v : PiUnit) (s : State) : (s.setPi p v).scal = s.scal := by cases p <;> rfl
@[simp] theorem State.setPi_cfg (p : PiSel) (v : PiUnit) (s : State) : (s.setPi p v).cfg = s.cfg := by cases p <;> rfl
@[simp] theorem State.setPi_params (p : PiSel) (v : PiUnit) (s : State) : (s.setPi p v).params = s.params := by cases p <;> rfl
@[simp] theorem State.setPi_port (p : PiSel) (v : PiUnit) (s : State) : (s.setPi p v).port = s.port := by cases p <;> rfl
@[simp] theorem State.setPi_calAnswers (p : PiSel) (v : PiUnit) (s : State) : (s.setPi p v).calAnswers = s.calAnswers := by cases p <;> rfl
@[simp] theorem State.setPi_calDraws (p : PiSel) (v : PiUnit) (s : State) : (s.setPi p v).calDraws = s.calDraws := by cases p <;> rfl
@[simp] theorem State.setPi_tornDraws (p : PiSel) (v : PiUnit) (s : State) : (s.setPi p v).tornDraws = s.tornDraws := by cases p <;> rfl
@[simp] theorem State.setPi_calls (p : PiSel) (v : PiUnit) (s : State) : (s.setPi p v).calls = s.calls := by cases p <;> rfl
@[simp] theorem State.setPi_hostReads (p : PiSel) (v : PiUnit) (s : State) : (s.setPi p v).hostReads = s.hostReads := by cases p <;> rfl
@[simp] theorem State.setPi_telemetryReads (p : PiSel) (v : PiUnit) (s : State) : (s.setPi p v).telemetryReads = s.telemetryReads := by cases p <;> rfl

/-! The units that a selector names -/

@[simp] theorem State.maf_setMaf (u : MafSel) (m : MafUnit) (s : State) : (s.setMaf u m).maf u = m := by cases u <;> rfl
@[simp] theorem State.maf_setMafReady (u v : MafSel) (b : Bool) (s : State) : (s.setMafReady v b).maf u = s.maf u := by
  cases u <;> cases v <;> rfl
@[simp] theorem State.mafN_setMaf (u v : MafSel) (m : MafUnit) (s : State) : (s.setMaf v m).mafN u = s.mafN u := by
  cases u <;> cases v <;> rfl
@[simp] theorem State.mafN_setMafReady (u v : MafSel) (b : Bool) (s : State) : (s.setMafReady v b).mafN u = s.mafN u := by
  cases u <;> cases v <;> rfl
@[simp] theorem State.pi_setPi (p : PiSel) (v : PiUnit) (s : State) : (s.setPi p v).pi p = v := by cases p <;> rfl
@[simp] theorem State.piCfg_setPi (p q : PiSel) (v : PiUnit) (s : State) : (s.setPi q v).piCfg p = s.piCfg p := by
  cases p <;> cases q <;> rfl

/-- A ready flag never touches the other status fields. -/
@[simp] theorem State.setMafReady_state (u : MafSel) (b : Bool) (s : State) :
    (s.setMafReady u b).status.state = s.status.state := by cases u <;> rfl
@[simp] theorem State.setMafReady_configured (u : MafSel) (b : Bool) (s : State) :
    (s.setMafReady u b).status.configured = s.status.configured := by cases u <;> rfl
@[simp] theorem State.setMafReady_outen (u : MafSel) (b : Bool) (s : State) :
    (s.setMafReady u b).status.outen = s.status.outen := by cases u <;> rfl
@[simp] theorem State.setMafReady_illegal (u : MafSel) (b : Bool) (s : State) :
    (s.setMafReady u b).status.illegal = s.status.illegal := by cases u <;> rfl
@[simp] theorem State.setMafReady_rmsrdy (u : MafSel) (b : Bool) (s : State) :
    (s.setMafReady u b).status.rmsrdy = s.status.rmsrdy := by cases u <;> rfl
@[simp] theorem State.setMafReady_calrdy (u : MafSel) (b : Bool) (s : State) :
    (s.setMafReady u b).status.calrdy = s.status.calrdy := by cases u <;> rfl
@[simp] theorem State.setMafReady_cfgerr (u : MafSel) (b : Bool) (s : State) :
    (s.setMafReady u b).status.cfgerr = s.status.cfgerr := by cases u <;> rfl

end Sys2Proof.Machine
end

