-- ==== Sys2Proof/Laws/Bus.lean ====
section
/-!
SUPPORT. The register bus: the map is one word per address, a word written is the word read back, the two halves of a
32-bit register are independent, and one lemma says every outcome of a bus write (20_memory.md R81 to R84).
-/
namespace Sys2Proof.Machine

/-- An address of the map names its word and no other (10_state.md R51). -/
theorem Reg.ofAddr_addr (r : Reg) : Reg.ofAddr r.addr = some r := by cases r <;> decide

theorem Reg.addr_of_ofAddr {a : Addr} {r : Reg} (h : Reg.ofAddr a = some r) : r.addr = a := by
  have := List.find?_some h
  simpa using this

theorem Reg.addr_injective {r q : Reg} (h : r.addr = q.addr) : r = q := by
  have := Reg.ofAddr_addr r
  rw [h, Reg.ofAddr_addr] at this
  exact (Option.some.inj this).symm

/-- No mapped word is of class R. -/
theorem Reg.cls_ne_r (r : Reg) : r.cls ≠ .r := by cases r <;> decide

theorem busRead_addr (r : Reg) (s : State) : busRead r.addr s = r.get s := by
  simp only [busRead, Reg.ofAddr_addr]

theorem getLsbD_append16 (x y : W16) (i : Nat) :
    BitVec.getLsbD (w := 32) (x ++ y) i = if i < 16 then y.getLsbD i else x.getLsbD (i - 16) :=
  BitVec.getLsbD_append

@[simp] theorem lo16_withLo (r : W32) (v : W16) : lo16 (withLo r v) = v := by
  apply BitVec.eq_of_getLsbD_eq
  intro i hi
  have h := getLsbD_append16 (hi16 r) v i
  simp only [hi, if_true] at h
  simpa [lo16, withLo, hi] using h

@[simp] theorem hi16_withLo (r : W32) (v : W16) : hi16 (withLo r v) = hi16 r := by
  apply BitVec.eq_of_getLsbD_eq
  intro i hi
  have h := getLsbD_append16 (hi16 r) v (16 + i)
  simpa [hi16, withLo, hi] using h

@[simp] theorem lo16_withHi (r : W32) (v : W16) : lo16 (withHi r v) = lo16 r := by
  apply BitVec.eq_of_getLsbD_eq
  intro i hi
  have h := getLsbD_append16 v (lo16 r) i
  simpa [lo16, withHi, hi] using h

@[simp] theorem hi16_withHi (r : W32) (v : W16) : hi16 (withHi r v) = v := by
  apply BitVec.eq_of_getLsbD_eq
  intro i hi
  have h := getLsbD_append16 v (lo16 r) (16 + i)
  simpa [hi16, withHi, hi] using h

/-- A 32-bit register is its two words (20_memory.md R84). -/
theorem toNat_eq_halves (r : W32) : r.toNat = (hi16 r).toNat * 65536 + (lo16 r).toNat := by
  have h := r.isLt
  simp only [hi16, lo16, BitVec.extractLsb'_toNat, Nat.shiftRight_eq_div_pow]
  omega

/-- What a word is written to is what it reads back (20_memory.md R82), for the words a bus write stores to. -/
theorem Reg.get_set_self (r : Reg) (v : W16) (s : State) (hk : r.cls ≠ .k) (hs : r.cls ≠ .s) :
    r.get (r.set v s) = v := by
  cases r <;> first
    | (simp only [Reg.get, Reg.set, lo16_withLo, hi16_withHi]; done)
    | exact absurd rfl hk
    | exact absurd rfl hs

/-! Storing a word leaves what is no register of the map, and CTRL and STATUS. -/

@[simp] theorem Reg.set_ctrl (r : Reg) (v : W16) (s : State) : (r.set v s).ctrl = s.ctrl := by cases r <;> rfl
@[simp] theorem Reg.set_status (r : Reg) (v : W16) (s : State) : (r.set v s).status = s.status := by cases r <;> rfl
@[simp] theorem Reg.set_params (r : Reg) (v : W16) (s : State) : (r.set v s).params = s.params := by cases r <;> rfl
@[simp] theorem Reg.set_port (r : Reg) (v : W16) (s : State) : (r.set v s).port = s.port := by cases r <;> rfl
@[simp] theorem Reg.set_calls (r : Reg) (v : W16) (s : State) : (r.set v s).calls = s.calls := by cases r <;> rfl
@[simp] theorem Reg.set_calAnswers (r : Reg) (v : W16) (s : State) : (r.set v s).calAnswers = s.calAnswers := by
  cases r <;> rfl
@[simp] theorem Reg.set_calDraws (r : Reg) (v : W16) (s : State) : (r.set v s).calDraws = s.calDraws := by cases r <;> rfl
@[simp] theorem Reg.set_tornDraws (r : Reg) (v : W16) (s : State) : (r.set v s).tornDraws = s.tornDraws := by
  cases r <;> rfl
@[simp] theorem Reg.set_hostReads (r : Reg) (v : W16) (s : State) : (r.set v s).hostReads = s.hostReads := by
  cases r <;> rfl
@[simp] theorem Reg.set_telemetryReads (r : Reg) (v : W16) (s : State) :
    (r.set v s).telemetryReads = s.telemetryReads := by cases r <;> rfl

/-- Only a word of class C is a configuration register. -/
theorem Reg.set_cfg (r : Reg) (v : W16) (s : State) (h : r.cls ≠ .c) : (r.set v s).cfg = s.cfg := by
  cases r <;> first
    | rfl
    | exact absurd rfl h

/-- A word of class I is a sample input: storing it leaves every other register. -/
theorem Reg.set_of_cls_i (r : Reg) (v : W16) (s : State) (h : r.cls = .i) :
    r.set v s = { s with samples := (r.set v s).samples } := by
  cases r <;> first
    | rfl
    | exact absurd h (by decide)

/-- Every outcome of a CTRL write (20_memory.md R83). -/
theorem writeCtrl_cases (v : W16) (s : State) :
    (writeCtrl v s = { s with ctrl := { s.ctrl with trigen := v.getLsbD 0 } }
      ∧ v.getLsbD 1 = s.ctrl.ocorrEn ∧ v.getLsbD 2 = s.ctrl.pbalEn ∧ v.getLsbD 3 = s.ctrl.dcmEn)
    ∨ (writeCtrl v s = { s with ctrl := { s.ctrl with trigen := v.getLsbD 0 } }.raiseIllegal ∧ s.ctrl.trigen = true)
    ∨ (writeCtrl v s =
        { s with
          ctrl := { trigen := v.getLsbD 0, ocorrEn := v.getLsbD 1, pbalEn := v.getLsbD 2, dcmEn := v.getLsbD 3 }
          status := { s.status with configured := false } }
      ∧ s.ctrl.trigen = false) := by
  unfold writeCtrl
  dsimp only
  split_ifs with h1 h2
  · exact .inr (.inl ⟨rfl, by revert h1; cases s.ctrl.trigen <;> simp⟩)
  · exact .inr (.inr ⟨rfl, by revert h1; rw [h2]; cases s.ctrl.trigen <;> simp⟩)
  · refine .inl ⟨rfl, ?_⟩
    simp only [bne_iff_ne, ne_eq, Decidable.not_not] at h2
    rw [← h2]
    simp

/-- Every outcome of a bus write (20_memory.md R82): a sample input stored, a CTRL write, a refusal, a debug write, or
a configuration write, which clears CONFIGURED. -/
theorem busWrite_cases (a : Addr) (v : W16) (s : State) :
    (∃ r, Reg.ofAddr a = some r ∧ r.cls = .i ∧ busWrite a v s = r.set v s)
    ∨ (a = Reg.addr .ctrl ∧ busWrite a v s = writeCtrl v s)
    ∨ busWrite a v s = s.raiseIllegal
    ∨ (∃ r, Reg.ofAddr a = some r ∧ r.cls = .d ∧ s.ctrl.trigen = false ∧ busWrite a v s = r.set v s)
    ∨ (∃ r, Reg.ofAddr a = some r ∧ r.cls = .c ∧ s.ctrl.trigen = false
        ∧ busWrite a v s = { r.set v s with status := { s.status with configured := false } }) := by
  unfold busWrite
  split
  · exact .inr (.inr (.inl rfl))
  · rename_i r hr
    cases hc : r.cls <;> dsimp only
    · refine .inr (.inl ⟨?_, rfl⟩)
      rw [← Reg.addr_of_ofAddr hr]
      cases r <;> first
        | rfl
        | exact absurd hc (by decide)
    · exact .inr (.inr (.inl rfl))
    · exact .inl ⟨r, hr, hc, rfl⟩
    · cases ht : s.ctrl.trigen
      · exact .inr (.inr (.inr (.inl ⟨r, hr, hc, rfl, by simp⟩)))
      · exact .inr (.inr (.inl (by simp)))
    · cases ht : s.ctrl.trigen
      · exact .inr (.inr (.inr (.inr ⟨r, hr, hc, rfl, by simp⟩)))
      · exact .inr (.inr (.inl (by simp)))
    · exact absurd hc (Reg.cls_ne_r r)

end Sys2Proof.Machine
end

