-- ==== Sys2Proof/Laws/Ops.lean ====
section
/-!
SUPPORT. What each shared operation leaves unchanged (tagged @[simp]) and, once per operation, what it does. A proof
about a meaning cites these and does not unfold the operation.
-/
namespace Sys2Proof.Machine

/-- A gated command answers a next state: the command's, or the refusal's (30_encoding.md R116). -/
theorem gated_next (g : Gate) (f : State → State) (s t : State) :
    gated g f s = .next t ↔ (g.holds s = true ∧ t = f s) ∨ (g.holds s = false ∧ t = s.raiseIllegal) := by
  unfold gated
  cases g.holds s <;> simp [eq_comm]

theorem gated_of_holds {g : Gate} {f : State → State} {s : State} (h : g.holds s = true) :
    gated g f s = .next (f s) := by simp [gated, h]

theorem gated_of_not_holds {g : Gate} {f : State → State} {s : State} (h : g.holds s = false) :
    gated g f s = .next s.raiseIllegal := by simp [gated, h]

/-! `mafUpdate`: its unit and ready flag (41_estimators.md R171) -/

@[simp] theorem mafUpdate_ctrl (u : MafSel) (x : Int) (s : State) : (mafUpdate u x s).ctrl = s.ctrl := by
  unfold mafUpdate; dsimp only; repeat' split
  all_goals simp
@[simp] theorem mafUpdate_fault (u : MafSel) (x : Int) (s : State) : (mafUpdate u x s).fault = s.fault := by
  unfold mafUpdate; dsimp only; repeat' split
  all_goals simp
@[simp] theorem mafUpdate_duty (u : MafSel) (x : Int) (s : State) : (mafUpdate u x s).duty = s.duty := by
  unfold mafUpdate; dsimp only; repeat' split
  all_goals simp
@[simp] theorem mafUpdate_samples (u : MafSel) (x : Int) (s : State) : (mafUpdate u x s).samples = s.samples := by
  unfold mafUpdate; dsimp only; repeat' split
  all_goals simp
@[simp] theorem mafUpdate_operands (u : MafSel) (x : Int) (s : State) : (mafUpdate u x s).operands = s.operands := by
  unfold mafUpdate; dsimp only; repeat' split
  all_goals simp
@[simp] theorem mafUpdate_snap (u : MafSel) (x : Int) (s : State) : (mafUpdate u x s).snap = s.snap := by
  unfold mafUpdate; dsimp only; repeat' split
  all_goals simp
@[simp] theorem mafUpdate_rms (u : MafSel) (x : Int) (s : State) : (mafUpdate u x s).rms = s.rms := by
  unfold mafUpdate; dsimp only; repeat' split
  all_goals simp
@[simp] theorem mafUpdate_piv (u : MafSel) (x : Int) (s : State) : (mafUpdate u x s).piv = s.piv := by
  unfold mafUpdate; dsimp only; repeat' split
  all_goals simp
@[simp] theorem mafUpdate_pic (u : MafSel) (x : Int) (s : State) : (mafUpdate u x s).pic = s.pic := by
  unfold mafUpdate; dsimp only; repeat' split
  all_goals simp
@[simp] theorem mafUpdate_scal (u : MafSel) (x : Int) (s : State) : (mafUpdate u x s).scal = s.scal := by
  unfold mafUpdate; dsimp only; repeat' split
  all_goals simp
@[simp] theorem mafUpdate_cfg (u : MafSel) (x : Int) (s : State) : (mafUpdate u x s).cfg = s.cfg := by
  unfold mafUpdate; dsimp only; repeat' split
  all_goals simp
@[simp] theorem mafUpdate_params (u : MafSel) (x : Int) (s : State) : (mafUpdate u x s).params = s.params := by
  unfold mafUpdate; dsimp only; repeat' split
  all_goals simp
@[simp] theorem mafUpdate_port (u : MafSel) (x : Int) (s : State) : (mafUpdate u x s).port = s.port := by
  unfold mafUpdate; dsimp only; repeat' split
  all_goals simp
@[simp] theorem mafUpdate_calAnswers (u : MafSel) (x : Int) (s : State) : (mafUpdate u x s).calAnswers = s.calAnswers := by
  unfold mafUpdate; dsimp only; repeat' split
  all_goals simp
@[simp] theorem mafUpdate_calDraws (u : MafSel) (x : Int) (s : State) : (mafUpdate u x s).calDraws = s.calDraws := by
  unfold mafUpdate; dsimp only; repeat' split
  all_goals simp
@[simp] theorem mafUpdate_tornDraws (u : MafSel) (x : Int) (s : State) : (mafUpdate u x s).tornDraws = s.tornDraws := by
  unfold mafUpdate; dsimp only; repeat' split
  all_goals simp
@[simp] theorem mafUpdate_calls (u : MafSel) (x : Int) (s : State) : (mafUpdate u x s).calls = s.calls := by
  unfold mafUpdate; dsimp only; repeat' split
  all_goals simp
@[simp] theorem mafUpdate_hostReads (u : MafSel) (x : Int) (s : State) : (mafUpdate u x s).hostReads = s.hostReads := by
  unfold mafUpdate; dsimp only; repeat' split
  all_goals simp
@[simp] theorem mafUpdate_telemetryReads (u : MafSel) (x : Int) (s : State) : (mafUpdate u x s).telemetryReads = s.telemetryReads := by
  unfold mafUpdate; dsimp only; repeat' split
  all_goals simp

/-! `mafReset`: its unit and ready flag (41_estimators.md R172) -/

@[simp] theorem mafReset_ctrl (u : MafSel) (s : State) : (mafReset u s).ctrl = s.ctrl := by
  simp [mafReset]
@[simp] theorem mafReset_fault (u : MafSel) (s : State) : (mafReset u s).fault = s.fault := by
  simp [mafReset]
@[simp] theorem mafReset_duty (u : MafSel) (s : State) : (mafReset u s).duty = s.duty := by
  simp [mafReset]
@[simp] theorem mafReset_samples (u : MafSel) (s : State) : (mafReset u s).samples = s.samples := by
  simp [mafReset]
@[simp] theorem mafReset_operands (u : MafSel) (s : State) : (mafReset u s).operands = s.operands := by
  simp [mafReset]
@[simp] theorem mafReset_snap (u : MafSel) (s : State) : (mafReset u s).snap = s.snap := by
  simp [mafReset]
@[simp] theorem mafReset_rms (u : MafSel) (s : State) : (mafReset u s).rms = s.rms := by
  simp [mafReset]
@[simp] theorem mafReset_piv (u : MafSel) (s : State) : (mafReset u s).piv = s.piv := by
  simp [mafReset]
@[simp] theorem mafReset_pic (u : MafSel) (s : State) : (mafReset u s).pic = s.pic := by
  simp [mafReset]
@[simp] theorem mafReset_scal (u : MafSel) (s : State) : (mafReset u s).scal = s.scal := by
  simp [mafReset]
@[simp] theorem mafReset_cfg (u : MafSel) (s : State) : (mafReset u s).cfg = s.cfg := by
  simp [mafReset]
@[simp] theorem mafReset_params (u : MafSel) (s : State) : (mafReset u s).params = s.params := by
  simp [mafReset]
@[simp] theorem mafReset_port (u : MafSel) (s : State) : (mafReset u s).port = s.port := by
  simp [mafReset]
@[simp] theorem mafReset_calAnswers (u : MafSel) (s : State) : (mafReset u s).calAnswers = s.calAnswers := by
  simp [mafReset]
@[simp] theorem mafReset_calDraws (u : MafSel) (s : State) : (mafReset u s).calDraws = s.calDraws := by
  simp [mafReset]
@[simp] theorem mafReset_tornDraws (u : MafSel) (s : State) : (mafReset u s).tornDraws = s.tornDraws := by
  simp [mafReset]
@[simp] theorem mafReset_calls (u : MafSel) (s : State) : (mafReset u s).calls = s.calls := by
  simp [mafReset]
@[simp] theorem mafReset_hostReads (u : MafSel) (s : State) : (mafReset u s).hostReads = s.hostReads := by
  simp [mafReset]
@[simp] theorem mafReset_telemetryReads (u : MafSel) (s : State) : (mafReset u s).telemetryReads = s.telemetryReads := by
  simp [mafReset]

/-! `rmsUpdate`: the RMS unit and RMSRDY (41_estimators.md R175) -/

@[simp] theorem rmsUpdate_ctrl (x : Int) (s : State) : (rmsUpdate x s).ctrl = s.ctrl := by
  unfold rmsUpdate; dsimp only; repeat' split
  all_goals simp
@[simp] theorem rmsUpdate_fault (x : Int) (s : State) : (rmsUpdate x s).fault = s.fault := by
  unfold rmsUpdate; dsimp only; repeat' split
  all_goals simp
@[simp] theorem rmsUpdate_duty (x : Int) (s : State) : (rmsUpdate x s).duty = s.duty := by
  unfold rmsUpdate; dsimp only; repeat' split
  all_goals simp
@[simp] theorem rmsUpdate_samples (x : Int) (s : State) : (rmsUpdate x s).samples = s.samples := by
  unfold rmsUpdate; dsimp only; repeat' split
  all_goals simp
@[simp] theorem rmsUpdate_operands (x : Int) (s : State) : (rmsUpdate x s).operands = s.operands := by
  unfold rmsUpdate; dsimp only; repeat' split
  all_goals simp
@[simp] theorem rmsUpdate_snap (x : Int) (s : State) : (rmsUpdate x s).snap = s.snap := by
  unfold rmsUpdate; dsimp only; repeat' split
  all_goals simp
@[simp] theorem rmsUpdate_dcavg (x : Int) (s : State) : (rmsUpdate x s).dcavg = s.dcavg := by
  unfold rmsUpdate; dsimp only; repeat' split
  all_goals simp
@[simp] theorem rmsUpdate_acavg (x : Int) (s : State) : (rmsUpdate x s).acavg = s.acavg := by
  unfold rmsUpdate; dsimp only; repeat' split
  all_goals simp
@[simp] theorem rmsUpdate_piv (x : Int) (s : State) : (rmsUpdate x s).piv = s.piv := by
  unfold rmsUpdate; dsimp only; repeat' split
  all_goals simp
@[simp] theorem rmsUpdate_pic (x : Int) (s : State) : (rmsUpdate x s).pic = s.pic := by
  unfold rmsUpdate; dsimp only; repeat' split
  all_goals simp
@[simp] theorem rmsUpdate_scal (x : Int) (s : State) : (rmsUpdate x s).scal = s.scal := by
  unfold rmsUpdate; dsimp only; repeat' split
  all_goals simp
@[simp] theorem rmsUpdate_cfg (x : Int) (s : State) : (rmsUpdate x s).cfg = s.cfg := by
  unfold rmsUpdate; dsimp only; repeat' split
  all_goals simp
@[simp] theorem rmsUpdate_params (x : Int) (s : State) : (rmsUpdate x s).params = s.params := by
  unfold rmsUpdate; dsimp only; repeat' split
  all_goals simp
@[simp] theorem rmsUpdate_port (x : Int) (s : State) : (rmsUpdate x s).port = s.port := by
  unfold rmsUpdate; dsimp only; repeat' split
  all_goals simp
@[simp] theorem rmsUpdate_calAnswers (x : Int) (s : State) : (rmsUpdate x s).calAnswers = s.calAnswers := by
  unfold rmsUpdate; dsimp only; repeat' split
  all_goals simp
@[simp] theorem rmsUpdate_calDraws (x : Int) (s : State) : (rmsUpdate x s).calDraws = s.calDraws := by
  unfold rmsUpdate; dsimp only; repeat' split
  all_goals simp
@[simp] theorem rmsUpdate_tornDraws (x : Int) (s : State) : (rmsUpdate x s).tornDraws = s.tornDraws := by
  unfold rmsUpdate; dsimp only; repeat' split
  all_goals simp
@[simp] theorem rmsUpdate_calls (x : Int) (s : State) : (rmsUpdate x s).calls = s.calls := by
  unfold rmsUpdate; dsimp only; repeat' split
  all_goals simp
@[simp] theorem rmsUpdate_hostReads (x : Int) (s : State) : (rmsUpdate x s).hostReads = s.hostReads := by
  unfold rmsUpdate; dsimp only; repeat' split
  all_goals simp
@[simp] theorem rmsUpdate_telemetryReads (x : Int) (s : State) : (rmsUpdate x s).telemetryReads = s.telemetryReads := by
  unfold rmsUpdate; dsimp only; repeat' split
  all_goals simp

/-! `rmsReset`: the RMS unit and RMSRDY (41_estimators.md R177) -/

@[simp] theorem rmsReset_ctrl (s : State) : (rmsReset s).ctrl = s.ctrl := by
  simp [rmsReset]
@[simp] theorem rmsReset_fault (s : State) : (rmsReset s).fault = s.fault := by
  simp [rmsReset]
@[simp] theorem rmsReset_duty (s : State) : (rmsReset s).duty = s.duty := by
  simp [rmsReset]
@[simp] theorem rmsReset_samples (s : State) : (rmsReset s).samples = s.samples := by
  simp [rmsReset]
@[simp] theorem rmsReset_operands (s : State) : (rmsReset s).operands = s.operands := by
  simp [rmsReset]
@[simp] theorem rmsReset_snap (s : State) : (rmsReset s).snap = s.snap := by
  simp [rmsReset]
@[simp] theorem rmsReset_dcavg (s : State) : (rmsReset s).dcavg = s.dcavg := by
  simp [rmsReset]
@[simp] theorem rmsReset_acavg (s : State) : (rmsReset s).acavg = s.acavg := by
  simp [rmsReset]
@[simp] theorem rmsReset_piv (s : State) : (rmsReset s).piv = s.piv := by
  simp [rmsReset]
@[simp] theorem rmsReset_pic (s : State) : (rmsReset s).pic = s.pic := by
  simp [rmsReset]
@[simp] theorem rmsReset_scal (s : State) : (rmsReset s).scal = s.scal := by
  simp [rmsReset]
@[simp] theorem rmsReset_cfg (s : State) : (rmsReset s).cfg = s.cfg := by
  simp [rmsReset]
@[simp] theorem rmsReset_params (s : State) : (rmsReset s).params = s.params := by
  simp [rmsReset]
@[simp] theorem rmsReset_port (s : State) : (rmsReset s).port = s.port := by
  simp [rmsReset]
@[simp] theorem rmsReset_calAnswers (s : State) : (rmsReset s).calAnswers = s.calAnswers := by
  simp [rmsReset]
@[simp] theorem rmsReset_calDraws (s : State) : (rmsReset s).calDraws = s.calDraws := by
  simp [rmsReset]
@[simp] theorem rmsReset_tornDraws (s : State) : (rmsReset s).tornDraws = s.tornDraws := by
  simp [rmsReset]
@[simp] theorem rmsReset_calls (s : State) : (rmsReset s).calls = s.calls := by
  simp [rmsReset]
@[simp] theorem rmsReset_hostReads (s : State) : (rmsReset s).hostReads = s.hostReads := by
  simp [rmsReset]
@[simp] theorem rmsReset_telemetryReads (s : State) : (rmsReset s).telemetryReads = s.telemetryReads := by
  simp [rmsReset]

/-! `piUpdate`: its unit (42_pi.md R203 law 1) -/

@[simp] theorem piUpdate_ctrl (p : PiSel) (e k : W16) (s : State) : (piUpdate p e k s).ctrl = s.ctrl := by
  simp [piUpdate]
@[simp] theorem piUpdate_status (p : PiSel) (e k : W16) (s : State) : (piUpdate p e k s).status = s.status := by
  simp [piUpdate]
@[simp] theorem piUpdate_fault (p : PiSel) (e k : W16) (s : State) : (piUpdate p e k s).fault = s.fault := by
  simp [piUpdate]
@[simp] theorem piUpdate_duty (p : PiSel) (e k : W16) (s : State) : (piUpdate p e k s).duty = s.duty := by
  simp [piUpdate]
@[simp] theorem piUpdate_samples (p : PiSel) (e k : W16) (s : State) : (piUpdate p e k s).samples = s.samples := by
  simp [piUpdate]
@[simp] theorem piUpdate_operands (p : PiSel) (e k : W16) (s : State) : (piUpdate p e k s).operands = s.operands := by
  simp [piUpdate]
@[simp] theorem piUpdate_snap (p : PiSel) (e k : W16) (s : State) : (piUpdate p e k s).snap = s.snap := by
  simp [piUpdate]
@[simp] theorem piUpdate_dcavg (p : PiSel) (e k : W16) (s : State) : (piUpdate p e k s).dcavg = s.dcavg := by
  simp [piUpdate]
@[simp] theorem piUpdate_acavg (p : PiSel) (e k : W16) (s : State) : (piUpdate p e k s).acavg = s.acavg := by
  simp [piUpdate]
@[simp] theorem piUpdate_rms (p : PiSel) (e k : W16) (s : State) : (piUpdate p e k s).rms = s.rms := by
  simp [piUpdate]
@[simp] theorem piUpdate_scal (p : PiSel) (e k : W16) (s : State) : (piUpdate p e k s).scal = s.scal := by
  simp [piUpdate]
@[simp] theorem piUpdate_cfg (p : PiSel) (e k : W16) (s : State) : (piUpdate p e k s).cfg = s.cfg := by
  simp [piUpdate]
@[simp] theorem piUpdate_params (p : PiSel) (e k : W16) (s : State) : (piUpdate p e k s).params = s.params := by
  simp [piUpdate]
@[simp] theorem piUpdate_port (p : PiSel) (e k : W16) (s : State) : (piUpdate p e k s).port = s.port := by
  simp [piUpdate]
@[simp] theorem piUpdate_calAnswers (p : PiSel) (e k : W16) (s : State) : (piUpdate p e k s).calAnswers = s.calAnswers := by
  simp [piUpdate]
@[simp] theorem piUpdate_calDraws (p : PiSel) (e k : W16) (s : State) : (piUpdate p e k s).calDraws = s.calDraws := by
  simp [piUpdate]
@[simp] theorem piUpdate_tornDraws (p : PiSel) (e k : W16) (s : State) : (piUpdate p e k s).tornDraws = s.tornDraws := by
  simp [piUpdate]
@[simp] theorem piUpdate_calls (p : PiSel) (e k : W16) (s : State) : (piUpdate p e k s).calls = s.calls := by
  simp [piUpdate]
@[simp] theorem piUpdate_hostReads (p : PiSel) (e k : W16) (s : State) : (piUpdate p e k s).hostReads = s.hostReads := by
  simp [piUpdate]
@[simp] theorem piUpdate_telemetryReads (p : PiSel) (e k : W16) (s : State) : (piUpdate p e k s).telemetryReads = s.telemetryReads := by
  simp [piUpdate]

/-! `piReset`: its unit (42_pi.md R205) -/

@[simp] theorem piReset_ctrl (p : PiSel) (s : State) : (piReset p s).ctrl = s.ctrl := by
  simp [piReset]
@[simp] theorem piReset_status (p : PiSel) (s : State) : (piReset p s).status = s.status := by
  simp [piReset]
@[simp] theorem piReset_fault (p : PiSel) (s : State) : (piReset p s).fault = s.fault := by
  simp [piReset]
@[simp] theorem piReset_duty (p : PiSel) (s : State) : (piReset p s).duty = s.duty := by
  simp [piReset]
@[simp] theorem piReset_samples (p : PiSel) (s : State) : (piReset p s).samples = s.samples := by
  simp [piReset]
@[simp] theorem piReset_operands (p : PiSel) (s : State) : (piReset p s).operands = s.operands := by
  simp [piReset]
@[simp] theorem piReset_snap (p : PiSel) (s : State) : (piReset p s).snap = s.snap := by
  simp [piReset]
@[simp] theorem piReset_dcavg (p : PiSel) (s : State) : (piReset p s).dcavg = s.dcavg := by
  simp [piReset]
@[simp] theorem piReset_acavg (p : PiSel) (s : State) : (piReset p s).acavg = s.acavg := by
  simp [piReset]
@[simp] theorem piReset_rms (p : PiSel) (s : State) : (piReset p s).rms = s.rms := by
  simp [piReset]
@[simp] theorem piReset_scal (p : PiSel) (s : State) : (piReset p s).scal = s.scal := by
  simp [piReset]
@[simp] theorem piReset_cfg (p : PiSel) (s : State) : (piReset p s).cfg = s.cfg := by
  simp [piReset]
@[simp] theorem piReset_params (p : PiSel) (s : State) : (piReset p s).params = s.params := by
  simp [piReset]
@[simp] theorem piReset_port (p : PiSel) (s : State) : (piReset p s).port = s.port := by
  simp [piReset]
@[simp] theorem piReset_calAnswers (p : PiSel) (s : State) : (piReset p s).calAnswers = s.calAnswers := by
  simp [piReset]
@[simp] theorem piReset_calDraws (p : PiSel) (s : State) : (piReset p s).calDraws = s.calDraws := by
  simp [piReset]
@[simp] theorem piReset_tornDraws (p : PiSel) (s : State) : (piReset p s).tornDraws = s.tornDraws := by
  simp [piReset]
@[simp] theorem piReset_calls (p : PiSel) (s : State) : (piReset p s).calls = s.calls := by
  simp [piReset]
@[simp] theorem piReset_hostReads (p : PiSel) (s : State) : (piReset p s).hostReads = s.hostReads := by
  simp [piReset]
@[simp] theorem piReset_telemetryReads (p : PiSel) (s : State) : (piReset p s).telemetryReads = s.telemetryReads := by
  simp [piReset]

/-! `piClear`: its unit (42_pi.md R206) -/

@[simp] theorem piClear_ctrl (p : PiSel) (s : State) : (piClear p s).ctrl = s.ctrl := by
  simp [piClear]
@[simp] theorem piClear_status (p : PiSel) (s : State) : (piClear p s).status = s.status := by
  simp [piClear]
@[simp] theorem piClear_fault (p : PiSel) (s : State) : (piClear p s).fault = s.fault := by
  simp [piClear]
@[simp] theorem piClear_duty (p : PiSel) (s : State) : (piClear p s).duty = s.duty := by
  simp [piClear]
@[simp] theorem piClear_samples (p : PiSel) (s : State) : (piClear p s).samples = s.samples := by
  simp [piClear]
@[simp] theorem piClear_operands (p : PiSel) (s : State) : (piClear p s).operands = s.operands := by
  simp [piClear]
@[simp] theorem piClear_snap (p : PiSel) (s : State) : (piClear p s).snap = s.snap := by
  simp [piClear]
@[simp] theorem piClear_dcavg (p : PiSel) (s : State) : (piClear p s).dcavg = s.dcavg := by
  simp [piClear]
@[simp] theorem piClear_acavg (p : PiSel) (s : State) : (piClear p s).acavg = s.acavg := by
  simp [piClear]
@[simp] theorem piClear_rms (p : PiSel) (s : State) : (piClear p s).rms = s.rms := by
  simp [piClear]
@[simp] theorem piClear_scal (p : PiSel) (s : State) : (piClear p s).scal = s.scal := by
  simp [piClear]
@[simp] theorem piClear_cfg (p : PiSel) (s : State) : (piClear p s).cfg = s.cfg := by
  simp [piClear]
@[simp] theorem piClear_params (p : PiSel) (s : State) : (piClear p s).params = s.params := by
  simp [piClear]
@[simp] theorem piClear_port (p : PiSel) (s : State) : (piClear p s).port = s.port := by
  simp [piClear]
@[simp] theorem piClear_calAnswers (p : PiSel) (s : State) : (piClear p s).calAnswers = s.calAnswers := by
  simp [piClear]
@[simp] theorem piClear_calDraws (p : PiSel) (s : State) : (piClear p s).calDraws = s.calDraws := by
  simp [piClear]
@[simp] theorem piClear_tornDraws (p : PiSel) (s : State) : (piClear p s).tornDraws = s.tornDraws := by
  simp [piClear]
@[simp] theorem piClear_calls (p : PiSel) (s : State) : (piClear p s).calls = s.calls := by
  simp [piClear]
@[simp] theorem piClear_hostReads (p : PiSel) (s : State) : (piClear p s).hostReads = s.hostReads := by
  simp [piClear]
@[simp] theorem piClear_telemetryReads (p : PiSel) (s : State) : (piClear p s).telemetryReads = s.telemetryReads := by
  simp [piClear]

/-! `softStart`: SS_CNT and PIV_REF (43_control.md R231) -/

@[simp] theorem softStart_ctrl (s : State) : (softStart s).ctrl = s.ctrl := by
  unfold softStart; dsimp only; repeat' split
  all_goals simp
@[simp] theorem softStart_status (s : State) : (softStart s).status = s.status := by
  unfold softStart; dsimp only; repeat' split
  all_goals simp
@[simp] theorem softStart_fault (s : State) : (softStart s).fault = s.fault := by
  unfold softStart; dsimp only; repeat' split
  all_goals simp
@[simp] theorem softStart_duty (s : State) : (softStart s).duty = s.duty := by
  unfold softStart; dsimp only; repeat' split
  all_goals simp
@[simp] theorem softStart_samples (s : State) : (softStart s).samples = s.samples := by
  unfold softStart; dsimp only; repeat' split
  all_goals simp
@[simp] theorem softStart_operands (s : State) : (softStart s).operands = s.operands := by
  unfold softStart; dsimp only; repeat' split
  all_goals simp
@[simp] theorem softStart_snap (s : State) : (softStart s).snap = s.snap := by
  unfold softStart; dsimp only; repeat' split
  all_goals simp
@[simp] theorem softStart_dcavg (s : State) : (softStart s).dcavg = s.dcavg := by
  unfold softStart; dsimp only; repeat' split
  all_goals simp
@[simp] theorem softStart_acavg (s : State) : (softStart s).acavg = s.acavg := by
  unfold softStart; dsimp only; repeat' split
  all_goals simp
@[simp] theorem softStart_rms (s : State) : (softStart s).rms = s.rms := by
  unfold softStart; dsimp only; repeat' split
  all_goals simp
@[simp] theorem softStart_pic (s : State) : (softStart s).pic = s.pic := by
  unfold softStart; dsimp only; repeat' split
  all_goals simp
@[simp] theorem softStart_cfg (s : State) : (softStart s).cfg = s.cfg := by
  unfold softStart; dsimp only; repeat' split
  all_goals simp
@[simp] theorem softStart_params (s : State) : (softStart s).params = s.params := by
  unfold softStart; dsimp only; repeat' split
  all_goals simp
@[simp] theorem softStart_port (s : State) : (softStart s).port = s.port := by
  unfold softStart; dsimp only; repeat' split
  all_goals simp
@[simp] theorem softStart_calAnswers (s : State) : (softStart s).calAnswers = s.calAnswers := by
  unfold softStart; dsimp only; repeat' split
  all_goals simp
@[simp] theorem softStart_calDraws (s : State) : (softStart s).calDraws = s.calDraws := by
  unfold softStart; dsimp only; repeat' split
  all_goals simp
@[simp] theorem softStart_tornDraws (s : State) : (softStart s).tornDraws = s.tornDraws := by
  unfold softStart; dsimp only; repeat' split
  all_goals simp
@[simp] theorem softStart_calls (s : State) : (softStart s).calls = s.calls := by
  unfold softStart; dsimp only; repeat' split
  all_goals simp
@[simp] theorem softStart_hostReads (s : State) : (softStart s).hostReads = s.hostReads := by
  unfold softStart; dsimp only; repeat' split
  all_goals simp
@[simp] theorem softStart_telemetryReads (s : State) : (softStart s).telemetryReads = s.telemetryReads := by
  unfold softStart; dsimp only; repeat' split
  all_goals simp

/-! `vLoop`: VL_CNT and unit PIV (43_control.md R232) -/

@[simp] theorem vLoop_ctrl (s : State) : (vLoop s).ctrl = s.ctrl := by
  unfold vLoop; dsimp only; repeat' split
  all_goals simp
@[simp] theorem vLoop_status (s : State) : (vLoop s).status = s.status := by
  unfold vLoop; dsimp only; repeat' split
  all_goals simp
@[simp] theorem vLoop_fault (s : State) : (vLoop s).fault = s.fault := by
  unfold vLoop; dsimp only; repeat' split
  all_goals simp
@[simp] theorem vLoop_duty (s : State) : (vLoop s).duty = s.duty := by
  unfold vLoop; dsimp only; repeat' split
  all_goals simp
@[simp] theorem vLoop_samples (s : State) : (vLoop s).samples = s.samples := by
  unfold vLoop; dsimp only; repeat' split
  all_goals simp
@[simp] theorem vLoop_operands (s : State) : (vLoop s).operands = s.operands := by
  unfold vLoop; dsimp only; repeat' split
  all_goals simp
@[simp] theorem vLoop_snap (s : State) : (vLoop s).snap = s.snap := by
  unfold vLoop; dsimp only; repeat' split
  all_goals simp
@[simp] theorem vLoop_dcavg (s : State) : (vLoop s).dcavg = s.dcavg := by
  unfold vLoop; dsimp only; repeat' split
  all_goals simp
@[simp] theorem vLoop_acavg (s : State) : (vLoop s).acavg = s.acavg := by
  unfold vLoop; dsimp only; repeat' split
  all_goals simp
@[simp] theorem vLoop_rms (s : State) : (vLoop s).rms = s.rms := by
  unfold vLoop; dsimp only; repeat' split
  all_goals simp
@[simp] theorem vLoop_cfg (s : State) : (vLoop s).cfg = s.cfg := by
  unfold vLoop; dsimp only; repeat' split
  all_goals simp
@[simp] theorem vLoop_params (s : State) : (vLoop s).params = s.params := by
  unfold vLoop; dsimp only; repeat' split
  all_goals simp
@[simp] theorem vLoop_port (s : State) : (vLoop s).port = s.port := by
  unfold vLoop; dsimp only; repeat' split
  all_goals simp
@[simp] theorem vLoop_calAnswers (s : State) : (vLoop s).calAnswers = s.calAnswers := by
  unfold vLoop; dsimp only; repeat' split
  all_goals simp
@[simp] theorem vLoop_calDraws (s : State) : (vLoop s).calDraws = s.calDraws := by
  unfold vLoop; dsimp only; repeat' split
  all_goals simp
@[simp] theorem vLoop_tornDraws (s : State) : (vLoop s).tornDraws = s.tornDraws := by
  unfold vLoop; dsimp only; repeat' split
  all_goals simp
@[simp] theorem vLoop_calls (s : State) : (vLoop s).calls = s.calls := by
  unfold vLoop; dsimp only; repeat' split
  all_goals simp
@[simp] theorem vLoop_hostReads (s : State) : (vLoop s).hostReads = s.hostReads := by
  unfold vLoop; dsimp only; repeat' split
  all_goals simp
@[simp] theorem vLoop_telemetryReads (s : State) : (vLoop s).telemetryReads = s.telemetryReads := by
  unfold vLoop; dsimp only; repeat' split
  all_goals simp

@[simp] theorem piUpdate_piv_pic (e k : W16) (s : State) : (piUpdate .piv e k s).pic = s.pic := rfl
@[simp] theorem piUpdate_pic_piv (e k : W16) (s : State) : (piUpdate .pic e k s).piv = s.piv := rfl
@[simp] theorem mafUpdate_dcavg_acavg (x : Int) (s : State) : (mafUpdate .dcavg x s).acavg = s.acavg := by
  unfold mafUpdate; dsimp only; split <;> rfl
@[simp] theorem mafUpdate_acavg_dcavg (x : Int) (s : State) : (mafUpdate .acavg x s).dcavg = s.dcavg := by
  unfold mafUpdate; dsimp only; split <;> rfl
@[simp] theorem vLoop_pic (s : State) : (vLoop s).pic = s.pic := by
  unfold vLoop; dsimp only; split <;> simp

/-! `iRef`: IREF (43_control.md R234) -/

@[simp] theorem iRef_ctrl (s : State) : (iRef s).ctrl = s.ctrl := by
  rfl
@[simp] theorem iRef_status (s : State) : (iRef s).status = s.status := by
  rfl
@[simp] theorem iRef_fault (s : State) : (iRef s).fault = s.fault := by
  rfl
@[simp] theorem iRef_duty (s : State) : (iRef s).duty = s.duty := by
  rfl
@[simp] theorem iRef_samples (s : State) : (iRef s).samples = s.samples := by
  rfl
@[simp] theorem iRef_operands (s : State) : (iRef s).operands = s.operands := by
  rfl
@[simp] theorem iRef_snap (s : State) : (iRef s).snap = s.snap := by
  rfl
@[simp] theorem iRef_dcavg (s : State) : (iRef s).dcavg = s.dcavg := by
  rfl
@[simp] theorem iRef_acavg (s : State) : (iRef s).acavg = s.acavg := by
  rfl
@[simp] theorem iRef_rms (s : State) : (iRef s).rms = s.rms := by
  rfl
@[simp] theorem iRef_piv (s : State) : (iRef s).piv = s.piv := by
  rfl
@[simp] theorem iRef_pic (s : State) : (iRef s).pic = s.pic := by
  rfl
@[simp] theorem iRef_cfg (s : State) : (iRef s).cfg = s.cfg := by
  rfl
@[simp] theorem iRef_params (s : State) : (iRef s).params = s.params := by
  rfl
@[simp] theorem iRef_port (s : State) : (iRef s).port = s.port := by
  rfl
@[simp] theorem iRef_calAnswers (s : State) : (iRef s).calAnswers = s.calAnswers := by
  rfl
@[simp] theorem iRef_calDraws (s : State) : (iRef s).calDraws = s.calDraws := by
  rfl
@[simp] theorem iRef_tornDraws (s : State) : (iRef s).tornDraws = s.tornDraws := by
  rfl
@[simp] theorem iRef_calls (s : State) : (iRef s).calls = s.calls := by
  rfl
@[simp] theorem iRef_hostReads (s : State) : (iRef s).hostReads = s.hostReads := by
  rfl
@[simp] theorem iRef_telemetryReads (s : State) : (iRef s).telemetryReads = s.telemetryReads := by
  rfl

/-! `boostD`: BOOSTD (43_control.md R235) -/

@[simp] theorem boostD_ctrl (s : State) : (boostD s).ctrl = s.ctrl := by
  unfold boostD; dsimp only; repeat' split
  all_goals simp
@[simp] theorem boostD_status (s : State) : (boostD s).status = s.status := by
  unfold boostD; dsimp only; repeat' split
  all_goals simp
@[simp] theorem boostD_fault (s : State) : (boostD s).fault = s.fault := by
  unfold boostD; dsimp only; repeat' split
  all_goals simp
@[simp] theorem boostD_duty (s : State) : (boostD s).duty = s.duty := by
  unfold boostD; dsimp only; repeat' split
  all_goals simp
@[simp] theorem boostD_samples (s : State) : (boostD s).samples = s.samples := by
  unfold boostD; dsimp only; repeat' split
  all_goals simp
@[simp] theorem boostD_operands (s : State) : (boostD s).operands = s.operands := by
  unfold boostD; dsimp only; repeat' split
  all_goals simp
@[simp] theorem boostD_snap (s : State) : (boostD s).snap = s.snap := by
  unfold boostD; dsimp only; repeat' split
  all_goals simp
@[simp] theorem boostD_dcavg (s : State) : (boostD s).dcavg = s.dcavg := by
  unfold boostD; dsimp only; repeat' split
  all_goals simp
@[simp] theorem boostD_acavg (s : State) : (boostD s).acavg = s.acavg := by
  unfold boostD; dsimp only; repeat' split
  all_goals simp
@[simp] theorem boostD_rms (s : State) : (boostD s).rms = s.rms := by
  unfold boostD; dsimp only; repeat' split
  all_goals simp
@[simp] theorem boostD_piv (s : State) : (boostD s).piv = s.piv := by
  unfold boostD; dsimp only; repeat' split
  all_goals simp
@[simp] theorem boostD_pic (s : State) : (boostD s).pic = s.pic := by
  unfold boostD; dsimp only; repeat' split
  all_goals simp
@[simp] theorem boostD_cfg (s : State) : (boostD s).cfg = s.cfg := by
  unfold boostD; dsimp only; repeat' split
  all_goals simp
@[simp] theorem boostD_params (s : State) : (boostD s).params = s.params := by
  unfold boostD; dsimp only; repeat' split
  all_goals simp
@[simp] theorem boostD_port (s : State) : (boostD s).port = s.port := by
  unfold boostD; dsimp only; repeat' split
  all_goals simp
@[simp] theorem boostD_calAnswers (s : State) : (boostD s).calAnswers = s.calAnswers := by
  unfold boostD; dsimp only; repeat' split
  all_goals simp
@[simp] theorem boostD_calDraws (s : State) : (boostD s).calDraws = s.calDraws := by
  unfold boostD; dsimp only; repeat' split
  all_goals simp
@[simp] theorem boostD_tornDraws (s : State) : (boostD s).tornDraws = s.tornDraws := by
  unfold boostD; dsimp only; repeat' split
  all_goals simp
@[simp] theorem boostD_calls (s : State) : (boostD s).calls = s.calls := by
  unfold boostD; dsimp only; repeat' split
  all_goals simp
@[simp] theorem boostD_hostReads (s : State) : (boostD s).hostReads = s.hostReads := by
  unfold boostD; dsimp only; repeat' split
  all_goals simp
@[simp] theorem boostD_telemetryReads (s : State) : (boostD s).telemetryReads = s.telemetryReads := by
  unfold boostD; dsimp only; repeat' split
  all_goals simp

/-! `iCorr`: IL (43_control.md R236) -/

@[simp] theorem iCorr_ctrl (s : State) : (iCorr s).ctrl = s.ctrl := by
  unfold iCorr; dsimp only; repeat' split
  all_goals simp
@[simp] theorem iCorr_status (s : State) : (iCorr s).status = s.status := by
  unfold iCorr; dsimp only; repeat' split
  all_goals simp
@[simp] theorem iCorr_fault (s : State) : (iCorr s).fault = s.fault := by
  unfold iCorr; dsimp only; repeat' split
  all_goals simp
@[simp] theorem iCorr_duty (s : State) : (iCorr s).duty = s.duty := by
  unfold iCorr; dsimp only; repeat' split
  all_goals simp
@[simp] theorem iCorr_samples (s : State) : (iCorr s).samples = s.samples := by
  unfold iCorr; dsimp only; repeat' split
  all_goals simp
@[simp] theorem iCorr_operands (s : State) : (iCorr s).operands = s.operands := by
  unfold iCorr; dsimp only; repeat' split
  all_goals simp
@[simp] theorem iCorr_dcavg (s : State) : (iCorr s).dcavg = s.dcavg := by
  unfold iCorr; dsimp only; repeat' split
  all_goals simp
@[simp] theorem iCorr_acavg (s : State) : (iCorr s).acavg = s.acavg := by
  unfold iCorr; dsimp only; repeat' split
  all_goals simp
@[simp] theorem iCorr_rms (s : State) : (iCorr s).rms = s.rms := by
  unfold iCorr; dsimp only; repeat' split
  all_goals simp
@[simp] theorem iCorr_piv (s : State) : (iCorr s).piv = s.piv := by
  unfold iCorr; dsimp only; repeat' split
  all_goals simp
@[simp] theorem iCorr_pic (s : State) : (iCorr s).pic = s.pic := by
  unfold iCorr; dsimp only; repeat' split
  all_goals simp
@[simp] theorem iCorr_scal (s : State) : (iCorr s).scal = s.scal := by
  unfold iCorr; dsimp only; repeat' split
  all_goals simp
@[simp] theorem iCorr_cfg (s : State) : (iCorr s).cfg = s.cfg := by
  unfold iCorr; dsimp only; repeat' split
  all_goals simp
@[simp] theorem iCorr_params (s : State) : (iCorr s).params = s.params := by
  unfold iCorr; dsimp only; repeat' split
  all_goals simp
@[simp] theorem iCorr_port (s : State) : (iCorr s).port = s.port := by
  unfold iCorr; dsimp only; repeat' split
  all_goals simp
@[simp] theorem iCorr_calAnswers (s : State) : (iCorr s).calAnswers = s.calAnswers := by
  unfold iCorr; dsimp only; repeat' split
  all_goals simp
@[simp] theorem iCorr_calDraws (s : State) : (iCorr s).calDraws = s.calDraws := by
  unfold iCorr; dsimp only; repeat' split
  all_goals simp
@[simp] theorem iCorr_tornDraws (s : State) : (iCorr s).tornDraws = s.tornDraws := by
  unfold iCorr; dsimp only; repeat' split
  all_goals simp
@[simp] theorem iCorr_calls (s : State) : (iCorr s).calls = s.calls := by
  unfold iCorr; dsimp only; repeat' split
  all_goals simp
@[simp] theorem iCorr_hostReads (s : State) : (iCorr s).hostReads = s.hostReads := by
  unfold iCorr; dsimp only; repeat' split
  all_goals simp
@[simp] theorem iCorr_telemetryReads (s : State) : (iCorr s).telemetryReads = s.telemetryReads := by
  unfold iCorr; dsimp only; repeat' split
  all_goals simp

/-! `dutyConvert`: DUTY and PIC_INT (43_control.md R238) -/

@[simp] theorem dutyConvert_ctrl (s : State) : (dutyConvert s).ctrl = s.ctrl := by
  unfold dutyConvert; dsimp only; repeat' split
  all_goals simp
@[simp] theorem dutyConvert_status (s : State) : (dutyConvert s).status = s.status := by
  unfold dutyConvert; dsimp only; repeat' split
  all_goals simp
@[simp] theorem dutyConvert_fault (s : State) : (dutyConvert s).fault = s.fault := by
  unfold dutyConvert; dsimp only; repeat' split
  all_goals simp
@[simp] theorem dutyConvert_samples (s : State) : (dutyConvert s).samples = s.samples := by
  unfold dutyConvert; dsimp only; repeat' split
  all_goals simp
@[simp] theorem dutyConvert_operands (s : State) : (dutyConvert s).operands = s.operands := by
  unfold dutyConvert; dsimp only; repeat' split
  all_goals simp
@[simp] theorem dutyConvert_snap (s : State) : (dutyConvert s).snap = s.snap := by
  unfold dutyConvert; dsimp only; repeat' split
  all_goals simp
@[simp] theorem dutyConvert_dcavg (s : State) : (dutyConvert s).dcavg = s.dcavg := by
  unfold dutyConvert; dsimp only; repeat' split
  all_goals simp
@[simp] theorem dutyConvert_acavg (s : State) : (dutyConvert s).acavg = s.acavg := by
  unfold dutyConvert; dsimp only; repeat' split
  all_goals simp
@[simp] theorem dutyConvert_rms (s : State) : (dutyConvert s).rms = s.rms := by
  unfold dutyConvert; dsimp only; repeat' split
  all_goals simp
@[simp] theorem dutyConvert_piv (s : State) : (dutyConvert s).piv = s.piv := by
  unfold dutyConvert; dsimp only; repeat' split
  all_goals simp
@[simp] theorem dutyConvert_scal (s : State) : (dutyConvert s).scal = s.scal := by
  unfold dutyConvert; dsimp only; repeat' split
  all_goals simp
@[simp] theorem dutyConvert_cfg (s : State) : (dutyConvert s).cfg = s.cfg := by
  unfold dutyConvert; dsimp only; repeat' split
  all_goals simp
@[simp] theorem dutyConvert_params (s : State) : (dutyConvert s).params = s.params := by
  unfold dutyConvert; dsimp only; repeat' split
  all_goals simp
@[simp] theorem dutyConvert_port (s : State) : (dutyConvert s).port = s.port := by
  unfold dutyConvert; dsimp only; repeat' split
  all_goals simp
@[simp] theorem dutyConvert_calAnswers (s : State) : (dutyConvert s).calAnswers = s.calAnswers := by
  unfold dutyConvert; dsimp only; repeat' split
  all_goals simp
@[simp] theorem dutyConvert_calDraws (s : State) : (dutyConvert s).calDraws = s.calDraws := by
  unfold dutyConvert; dsimp only; repeat' split
  all_goals simp
@[simp] theorem dutyConvert_tornDraws (s : State) : (dutyConvert s).tornDraws = s.tornDraws := by
  unfold dutyConvert; dsimp only; repeat' split
  all_goals simp
@[simp] theorem dutyConvert_calls (s : State) : (dutyConvert s).calls = s.calls := by
  unfold dutyConvert; dsimp only; repeat' split
  all_goals simp
@[simp] theorem dutyConvert_hostReads (s : State) : (dutyConvert s).hostReads = s.hostReads := by
  unfold dutyConvert; dsimp only; repeat' split
  all_goals simp
@[simp] theorem dutyConvert_telemetryReads (s : State) : (dutyConvert s).telemetryReads = s.telemetryReads := by
  unfold dutyConvert; dsimp only; repeat' split
  all_goals simp

/-! `standbyOverride`: DUTY and PIC_INT (43_control.md R239) -/

@[simp] theorem standbyOverride_ctrl (s : State) : (standbyOverride s).ctrl = s.ctrl := by
  unfold standbyOverride; dsimp only; repeat' split
  all_goals simp
@[simp] theorem standbyOverride_status (s : State) : (standbyOverride s).status = s.status := by
  unfold standbyOverride; dsimp only; repeat' split
  all_goals simp
@[simp] theorem standbyOverride_fault (s : State) : (standbyOverride s).fault = s.fault := by
  unfold standbyOverride; dsimp only; repeat' split
  all_goals simp
@[simp] theorem standbyOverride_samples (s : State) : (standbyOverride s).samples = s.samples := by
  unfold standbyOverride; dsimp only; repeat' split
  all_goals simp
@[simp] theorem standbyOverride_operands (s : State) : (standbyOverride s).operands = s.operands := by
  unfold standbyOverride; dsimp only; repeat' split
  all_goals simp
@[simp] theorem standbyOverride_snap (s : State) : (standbyOverride s).snap = s.snap := by
  unfold standbyOverride; dsimp only; repeat' split
  all_goals simp
@[simp] theorem standbyOverride_dcavg (s : State) : (standbyOverride s).dcavg = s.dcavg := by
  unfold standbyOverride; dsimp only; repeat' split
  all_goals simp
@[simp] theorem standbyOverride_acavg (s : State) : (standbyOverride s).acavg = s.acavg := by
  unfold standbyOverride; dsimp only; repeat' split
  all_goals simp
@[simp] theorem standbyOverride_rms (s : State) : (standbyOverride s).rms = s.rms := by
  unfold standbyOverride; dsimp only; repeat' split
  all_goals simp
@[simp] theorem standbyOverride_piv (s : State) : (standbyOverride s).piv = s.piv := by
  unfold standbyOverride; dsimp only; repeat' split
  all_goals simp
@[simp] theorem standbyOverride_scal (s : State) : (standbyOverride s).scal = s.scal := by
  unfold standbyOverride; dsimp only; repeat' split
  all_goals simp
@[simp] theorem standbyOverride_cfg (s : State) : (standbyOverride s).cfg = s.cfg := by
  unfold standbyOverride; dsimp only; repeat' split
  all_goals simp
@[simp] theorem standbyOverride_params (s : State) : (standbyOverride s).params = s.params := by
  unfold standbyOverride; dsimp only; repeat' split
  all_goals simp
@[simp] theorem standbyOverride_port (s : State) : (standbyOverride s).port = s.port := by
  unfold standbyOverride; dsimp only; repeat' split
  all_goals simp
@[simp] theorem standbyOverride_calAnswers (s : State) : (standbyOverride s).calAnswers = s.calAnswers := by
  unfold standbyOverride; dsimp only; repeat' split
  all_goals simp
@[simp] theorem standbyOverride_calDraws (s : State) : (standbyOverride s).calDraws = s.calDraws := by
  unfold standbyOverride; dsimp only; repeat' split
  all_goals simp
@[simp] theorem standbyOverride_tornDraws (s : State) : (standbyOverride s).tornDraws = s.tornDraws := by
  unfold standbyOverride; dsimp only; repeat' split
  all_goals simp
@[simp] theorem standbyOverride_calls (s : State) : (standbyOverride s).calls = s.calls := by
  unfold standbyOverride; dsimp only; repeat' split
  all_goals simp
@[simp] theorem standbyOverride_hostReads (s : State) : (standbyOverride s).hostReads = s.hostReads := by
  unfold standbyOverride; dsimp only; repeat' split
  all_goals simp
@[simp] theorem standbyOverride_telemetryReads (s : State) : (standbyOverride s).telemetryReads = s.telemetryReads := by
  unfold standbyOverride; dsimp only; repeat' split
  all_goals simp

/-! `iLoop`: IL, IAVG, unit PIC and DUTY (43_control.md R237) -/

@[simp] theorem iLoop_ctrl (s : State) : (iLoop s).ctrl = s.ctrl := by
  simp [iLoop]
@[simp] theorem iLoop_status (s : State) : (iLoop s).status = s.status := by
  simp [iLoop]
@[simp] theorem iLoop_fault (s : State) : (iLoop s).fault = s.fault := by
  simp [iLoop]
@[simp] theorem iLoop_samples (s : State) : (iLoop s).samples = s.samples := by
  simp [iLoop]
@[simp] theorem iLoop_operands (s : State) : (iLoop s).operands = s.operands := by
  simp [iLoop]
@[simp] theorem iLoop_dcavg (s : State) : (iLoop s).dcavg = s.dcavg := by
  simp [iLoop]
@[simp] theorem iLoop_acavg (s : State) : (iLoop s).acavg = s.acavg := by
  simp [iLoop]
@[simp] theorem iLoop_rms (s : State) : (iLoop s).rms = s.rms := by
  simp [iLoop]
@[simp] theorem iLoop_cfg (s : State) : (iLoop s).cfg = s.cfg := by
  simp [iLoop]
@[simp] theorem iLoop_params (s : State) : (iLoop s).params = s.params := by
  simp [iLoop]
@[simp] theorem iLoop_port (s : State) : (iLoop s).port = s.port := by
  simp [iLoop]
@[simp] theorem iLoop_calAnswers (s : State) : (iLoop s).calAnswers = s.calAnswers := by
  simp [iLoop]
@[simp] theorem iLoop_calDraws (s : State) : (iLoop s).calDraws = s.calDraws := by
  simp [iLoop]
@[simp] theorem iLoop_tornDraws (s : State) : (iLoop s).tornDraws = s.tornDraws := by
  simp [iLoop]
@[simp] theorem iLoop_calls (s : State) : (iLoop s).calls = s.calls := by
  simp [iLoop]
@[simp] theorem iLoop_hostReads (s : State) : (iLoop s).hostReads = s.hostReads := by
  simp [iLoop]
@[simp] theorem iLoop_telemetryReads (s : State) : (iLoop s).telemetryReads = s.telemetryReads := by
  simp [iLoop]

@[simp] theorem iLoop_piv (s : State) : (iLoop s).piv = s.piv := by simp [iLoop]

/-! `faultTrip`: FAULT (44_fault.md R272) -/

@[simp] theorem faultTrip_ctrl (s : State) : (faultTrip s).ctrl = s.ctrl := by
  unfold faultTrip; dsimp only; repeat' split
  all_goals simp
@[simp] theorem faultTrip_status (s : State) : (faultTrip s).status = s.status := by
  unfold faultTrip; dsimp only; repeat' split
  all_goals simp
@[simp] theorem faultTrip_duty (s : State) : (faultTrip s).duty = s.duty := by
  unfold faultTrip; dsimp only; repeat' split
  all_goals simp
@[simp] theorem faultTrip_samples (s : State) : (faultTrip s).samples = s.samples := by
  unfold faultTrip; dsimp only; repeat' split
  all_goals simp
@[simp] theorem faultTrip_operands (s : State) : (faultTrip s).operands = s.operands := by
  unfold faultTrip; dsimp only; repeat' split
  all_goals simp
@[simp] theorem faultTrip_snap (s : State) : (faultTrip s).snap = s.snap := by
  unfold faultTrip; dsimp only; repeat' split
  all_goals simp
@[simp] theorem faultTrip_dcavg (s : State) : (faultTrip s).dcavg = s.dcavg := by
  unfold faultTrip; dsimp only; repeat' split
  all_goals simp
@[simp] theorem faultTrip_acavg (s : State) : (faultTrip s).acavg = s.acavg := by
  unfold faultTrip; dsimp only; repeat' split
  all_goals simp
@[simp] theorem faultTrip_rms (s : State) : (faultTrip s).rms = s.rms := by
  unfold faultTrip; dsimp only; repeat' split
  all_goals simp
@[simp] theorem faultTrip_piv (s : State) : (faultTrip s).piv = s.piv := by
  unfold faultTrip; dsimp only; repeat' split
  all_goals simp
@[simp] theorem faultTrip_pic (s : State) : (faultTrip s).pic = s.pic := by
  unfold faultTrip; dsimp only; repeat' split
  all_goals simp
@[simp] theorem faultTrip_scal (s : State) : (faultTrip s).scal = s.scal := by
  unfold faultTrip; dsimp only; repeat' split
  all_goals simp
@[simp] theorem faultTrip_cfg (s : State) : (faultTrip s).cfg = s.cfg := by
  unfold faultTrip; dsimp only; repeat' split
  all_goals simp
@[simp] theorem faultTrip_params (s : State) : (faultTrip s).params = s.params := by
  unfold faultTrip; dsimp only; repeat' split
  all_goals simp
@[simp] theorem faultTrip_port (s : State) : (faultTrip s).port = s.port := by
  unfold faultTrip; dsimp only; repeat' split
  all_goals simp
@[simp] theorem faultTrip_calAnswers (s : State) : (faultTrip s).calAnswers = s.calAnswers := by
  unfold faultTrip; dsimp only; repeat' split
  all_goals simp
@[simp] theorem faultTrip_calDraws (s : State) : (faultTrip s).calDraws = s.calDraws := by
  unfold faultTrip; dsimp only; repeat' split
  all_goals simp
@[simp] theorem faultTrip_tornDraws (s : State) : (faultTrip s).tornDraws = s.tornDraws := by
  unfold faultTrip; dsimp only; repeat' split
  all_goals simp
@[simp] theorem faultTrip_calls (s : State) : (faultTrip s).calls = s.calls := by
  unfold faultTrip; dsimp only; repeat' split
  all_goals simp
@[simp] theorem faultTrip_hostReads (s : State) : (faultTrip s).hostReads = s.hostReads := by
  unfold faultTrip; dsimp only; repeat' split
  all_goals simp
@[simp] theorem faultTrip_telemetryReads (s : State) : (faultTrip s).telemetryReads = s.telemetryReads := by
  unfold faultTrip; dsimp only; repeat' split
  all_goals simp

/-! `faultRecover`: FAULT (44_fault.md R273) -/

@[simp] theorem faultRecover_ctrl (s : State) : (faultRecover s).ctrl = s.ctrl := by
  unfold faultRecover; dsimp only; repeat' split
  all_goals simp
@[simp] theorem faultRecover_status (s : State) : (faultRecover s).status = s.status := by
  unfold faultRecover; dsimp only; repeat' split
  all_goals simp
@[simp] theorem faultRecover_duty (s : State) : (faultRecover s).duty = s.duty := by
  unfold faultRecover; dsimp only; repeat' split
  all_goals simp
@[simp] theorem faultRecover_samples (s : State) : (faultRecover s).samples = s.samples := by
  unfold faultRecover; dsimp only; repeat' split
  all_goals simp
@[simp] theorem faultRecover_operands (s : State) : (faultRecover s).operands = s.operands := by
  unfold faultRecover; dsimp only; repeat' split
  all_goals simp
@[simp] theorem faultRecover_snap (s : State) : (faultRecover s).snap = s.snap := by
  unfold faultRecover; dsimp only; repeat' split
  all_goals simp
@[simp] theorem faultRecover_dcavg (s : State) : (faultRecover s).dcavg = s.dcavg := by
  unfold faultRecover; dsimp only; repeat' split
  all_goals simp
@[simp] theorem faultRecover_acavg (s : State) : (faultRecover s).acavg = s.acavg := by
  unfold faultRecover; dsimp only; repeat' split
  all_goals simp
@[simp] theorem faultRecover_rms (s : State) : (faultRecover s).rms = s.rms := by
  unfold faultRecover; dsimp only; repeat' split
  all_goals simp
@[simp] theorem faultRecover_piv (s : State) : (faultRecover s).piv = s.piv := by
  unfold faultRecover; dsimp only; repeat' split
  all_goals simp
@[simp] theorem faultRecover_pic (s : State) : (faultRecover s).pic = s.pic := by
  unfold faultRecover; dsimp only; repeat' split
  all_goals simp
@[simp] theorem faultRecover_scal (s : State) : (faultRecover s).scal = s.scal := by
  unfold faultRecover; dsimp only; repeat' split
  all_goals simp
@[simp] theorem faultRecover_cfg (s : State) : (faultRecover s).cfg = s.cfg := by
  unfold faultRecover; dsimp only; repeat' split
  all_goals simp
@[simp] theorem faultRecover_params (s : State) : (faultRecover s).params = s.params := by
  unfold faultRecover; dsimp only; repeat' split
  all_goals simp
@[simp] theorem faultRecover_port (s : State) : (faultRecover s).port = s.port := by
  unfold faultRecover; dsimp only; repeat' split
  all_goals simp
@[simp] theorem faultRecover_calAnswers (s : State) : (faultRecover s).calAnswers = s.calAnswers := by
  unfold faultRecover; dsimp only; repeat' split
  all_goals simp
@[simp] theorem faultRecover_calDraws (s : State) : (faultRecover s).calDraws = s.calDraws := by
  unfold faultRecover; dsimp only; repeat' split
  all_goals simp
@[simp] theorem faultRecover_tornDraws (s : State) : (faultRecover s).tornDraws = s.tornDraws := by
  unfold faultRecover; dsimp only; repeat' split
  all_goals simp
@[simp] theorem faultRecover_calls (s : State) : (faultRecover s).calls = s.calls := by
  unfold faultRecover; dsimp only; repeat' split
  all_goals simp
@[simp] theorem faultRecover_hostReads (s : State) : (faultRecover s).hostReads = s.hostReads := by
  unfold faultRecover; dsimp only; repeat' split
  all_goals simp
@[simp] theorem faultRecover_telemetryReads (s : State) : (faultRecover s).telemetryReads = s.telemetryReads := by
  unfold faultRecover; dsimp only; repeat' split
  all_goals simp

/-! `estim`: the estimators, VAC_OFFSET and RECT (45_sequencer.md R291) -/

@[simp] theorem estim_ctrl (s : State) : (estim s).ctrl = s.ctrl := by
  simp [estim]
@[simp] theorem estim_fault (s : State) : (estim s).fault = s.fault := by
  simp [estim]
@[simp] theorem estim_duty (s : State) : (estim s).duty = s.duty := by
  simp [estim]
@[simp] theorem estim_samples (s : State) : (estim s).samples = s.samples := by
  simp [estim]
@[simp] theorem estim_operands (s : State) : (estim s).operands = s.operands := by
  simp [estim]
@[simp] theorem estim_piv (s : State) : (estim s).piv = s.piv := by
  simp [estim]
@[simp] theorem estim_pic (s : State) : (estim s).pic = s.pic := by
  simp [estim]
@[simp] theorem estim_scal (s : State) : (estim s).scal = s.scal := by
  simp [estim]
@[simp] theorem estim_cfg (s : State) : (estim s).cfg = s.cfg := by
  simp [estim]
@[simp] theorem estim_params (s : State) : (estim s).params = s.params := by
  simp [estim]
@[simp] theorem estim_port (s : State) : (estim s).port = s.port := by
  simp [estim]
@[simp] theorem estim_calAnswers (s : State) : (estim s).calAnswers = s.calAnswers := by
  simp [estim]
@[simp] theorem estim_calDraws (s : State) : (estim s).calDraws = s.calDraws := by
  simp [estim]
@[simp] theorem estim_tornDraws (s : State) : (estim s).tornDraws = s.tornDraws := by
  simp [estim]
@[simp] theorem estim_calls (s : State) : (estim s).calls = s.calls := by
  simp [estim]
@[simp] theorem estim_hostReads (s : State) : (estim s).hostReads = s.hostReads := by
  simp [estim]
@[simp] theorem estim_telemetryReads (s : State) : (estim s).telemetryReads = s.telemetryReads := by
  simp [estim]

/-! `initPass`: every runtime register and flag (45_sequencer.md R292) -/

@[simp] theorem initPass_ctrl (s : State) : (initPass s).ctrl = s.ctrl := by
  simp [initPass]
@[simp] theorem initPass_samples (s : State) : (initPass s).samples = s.samples := by
  simp [initPass]
@[simp] theorem initPass_operands (s : State) : (initPass s).operands = s.operands := by
  simp [initPass]
@[simp] theorem initPass_cfg (s : State) : (initPass s).cfg = s.cfg := by
  simp [initPass]
@[simp] theorem initPass_params (s : State) : (initPass s).params = s.params := by
  simp [initPass]
@[simp] theorem initPass_port (s : State) : (initPass s).port = s.port := by
  simp [initPass]
@[simp] theorem initPass_calAnswers (s : State) : (initPass s).calAnswers = s.calAnswers := by
  simp [initPass]
@[simp] theorem initPass_calDraws (s : State) : (initPass s).calDraws = s.calDraws := by
  simp [initPass]
@[simp] theorem initPass_tornDraws (s : State) : (initPass s).tornDraws = s.tornDraws := by
  simp [initPass]
@[simp] theorem initPass_hostReads (s : State) : (initPass s).hostReads = s.hostReads := by
  simp [initPass]
@[simp] theorem initPass_telemetryReads (s : State) : (initPass s).telemetryReads = s.telemetryReads := by
  simp [initPass]

/-! `initFail`: CFGERR and CONFIGURED (45_sequencer.md R292) -/

@[simp] theorem initFail_ctrl (s : State) : (initFail s).ctrl = s.ctrl := by
  rfl
@[simp] theorem initFail_fault (s : State) : (initFail s).fault = s.fault := by
  rfl
@[simp] theorem initFail_duty (s : State) : (initFail s).duty = s.duty := by
  rfl
@[simp] theorem initFail_samples (s : State) : (initFail s).samples = s.samples := by
  rfl
@[simp] theorem initFail_operands (s : State) : (initFail s).operands = s.operands := by
  rfl
@[simp] theorem initFail_snap (s : State) : (initFail s).snap = s.snap := by
  rfl
@[simp] theorem initFail_dcavg (s : State) : (initFail s).dcavg = s.dcavg := by
  rfl
@[simp] theorem initFail_acavg (s : State) : (initFail s).acavg = s.acavg := by
  rfl
@[simp] theorem initFail_rms (s : State) : (initFail s).rms = s.rms := by
  rfl
@[simp] theorem initFail_piv (s : State) : (initFail s).piv = s.piv := by
  rfl
@[simp] theorem initFail_pic (s : State) : (initFail s).pic = s.pic := by
  rfl
@[simp] theorem initFail_scal (s : State) : (initFail s).scal = s.scal := by
  rfl
@[simp] theorem initFail_cfg (s : State) : (initFail s).cfg = s.cfg := by
  rfl
@[simp] theorem initFail_params (s : State) : (initFail s).params = s.params := by
  rfl
@[simp] theorem initFail_port (s : State) : (initFail s).port = s.port := by
  rfl
@[simp] theorem initFail_calAnswers (s : State) : (initFail s).calAnswers = s.calAnswers := by
  rfl
@[simp] theorem initFail_calDraws (s : State) : (initFail s).calDraws = s.calDraws := by
  rfl
@[simp] theorem initFail_tornDraws (s : State) : (initFail s).tornDraws = s.tornDraws := by
  rfl
@[simp] theorem initFail_calls (s : State) : (initFail s).calls = s.calls := by
  rfl
@[simp] theorem initFail_hostReads (s : State) : (initFail s).hostReads = s.hostReads := by
  rfl
@[simp] theorem initFail_telemetryReads (s : State) : (initFail s).telemetryReads = s.telemetryReads := by
  rfl

/-! `stateInit`: 45_sequencer.md R297 -/

@[simp] theorem stateInit_ctrl (s : State) : (stateInit s).ctrl = s.ctrl := by
  simp [stateInit]
@[simp] theorem stateInit_fault (s : State) : (stateInit s).fault = s.fault := by
  simp [stateInit]
@[simp] theorem stateInit_samples (s : State) : (stateInit s).samples = s.samples := by
  simp [stateInit]
@[simp] theorem stateInit_operands (s : State) : (stateInit s).operands = s.operands := by
  simp [stateInit]
@[simp] theorem stateInit_cfg (s : State) : (stateInit s).cfg = s.cfg := by
  simp [stateInit]
@[simp] theorem stateInit_params (s : State) : (stateInit s).params = s.params := by
  simp [stateInit]
@[simp] theorem stateInit_port (s : State) : (stateInit s).port = s.port := by
  simp [stateInit]
@[simp] theorem stateInit_calAnswers (s : State) : (stateInit s).calAnswers = s.calAnswers := by
  simp [stateInit]
@[simp] theorem stateInit_calDraws (s : State) : (stateInit s).calDraws = s.calDraws := by
  simp [stateInit]
@[simp] theorem stateInit_tornDraws (s : State) : (stateInit s).tornDraws = s.tornDraws := by
  simp [stateInit]
@[simp] theorem stateInit_hostReads (s : State) : (stateInit s).hostReads = s.hostReads := by
  simp [stateInit]
@[simp] theorem stateInit_telemetryReads (s : State) : (stateInit s).telemetryReads = s.telemetryReads := by
  simp [stateInit]

/-! `stateOffsetMeas`: 45_sequencer.md R298 -/

@[simp] theorem stateOffsetMeas_ctrl (s : State) : (stateOffsetMeas s).ctrl = s.ctrl := by
  unfold stateOffsetMeas; dsimp only; repeat' split
  all_goals simp
@[simp] theorem stateOffsetMeas_fault (s : State) : (stateOffsetMeas s).fault = s.fault := by
  unfold stateOffsetMeas; dsimp only; repeat' split
  all_goals simp
@[simp] theorem stateOffsetMeas_duty (s : State) : (stateOffsetMeas s).duty = s.duty := by
  unfold stateOffsetMeas; dsimp only; repeat' split
  all_goals simp
@[simp] theorem stateOffsetMeas_samples (s : State) : (stateOffsetMeas s).samples = s.samples := by
  unfold stateOffsetMeas; dsimp only; repeat' split
  all_goals simp
@[simp] theorem stateOffsetMeas_operands (s : State) : (stateOffsetMeas s).operands = s.operands := by
  unfold stateOffsetMeas; dsimp only; repeat' split
  all_goals simp
@[simp] theorem stateOffsetMeas_dcavg (s : State) : (stateOffsetMeas s).dcavg = s.dcavg := by
  unfold stateOffsetMeas; dsimp only; repeat' split
  all_goals simp
@[simp] theorem stateOffsetMeas_acavg (s : State) : (stateOffsetMeas s).acavg = s.acavg := by
  unfold stateOffsetMeas; dsimp only; repeat' split
  all_goals simp
@[simp] theorem stateOffsetMeas_rms (s : State) : (stateOffsetMeas s).rms = s.rms := by
  unfold stateOffsetMeas; dsimp only; repeat' split
  all_goals simp
@[simp] theorem stateOffsetMeas_pic (s : State) : (stateOffsetMeas s).pic = s.pic := by
  unfold stateOffsetMeas; dsimp only; repeat' split
  all_goals simp
@[simp] theorem stateOffsetMeas_scal (s : State) : (stateOffsetMeas s).scal = s.scal := by
  unfold stateOffsetMeas; dsimp only; repeat' split
  all_goals simp
@[simp] theorem stateOffsetMeas_cfg (s : State) : (stateOffsetMeas s).cfg = s.cfg := by
  unfold stateOffsetMeas; dsimp only; repeat' split
  all_goals simp
@[simp] theorem stateOffsetMeas_params (s : State) : (stateOffsetMeas s).params = s.params := by
  unfold stateOffsetMeas; dsimp only; repeat' split
  all_goals simp
@[simp] theorem stateOffsetMeas_port (s : State) : (stateOffsetMeas s).port = s.port := by
  unfold stateOffsetMeas; dsimp only; repeat' split
  all_goals simp
@[simp] theorem stateOffsetMeas_tornDraws (s : State) : (stateOffsetMeas s).tornDraws = s.tornDraws := by
  unfold stateOffsetMeas; dsimp only; repeat' split
  all_goals simp
@[simp] theorem stateOffsetMeas_hostReads (s : State) : (stateOffsetMeas s).hostReads = s.hostReads := by
  unfold stateOffsetMeas; dsimp only; repeat' split
  all_goals simp
@[simp] theorem stateOffsetMeas_telemetryReads (s : State) : (stateOffsetMeas s).telemetryReads = s.telemetryReads := by
  unfold stateOffsetMeas; dsimp only; repeat' split
  all_goals simp

/-! `stateWait1Cycle`: 45_sequencer.md R299 -/

@[simp] theorem stateWait1Cycle_ctrl (s : State) : (stateWait1Cycle s).ctrl = s.ctrl := by
  unfold stateWait1Cycle; split <;> simp
@[simp] theorem stateWait1Cycle_fault (s : State) : (stateWait1Cycle s).fault = s.fault := by
  unfold stateWait1Cycle; split <;> simp
@[simp] theorem stateWait1Cycle_duty (s : State) : (stateWait1Cycle s).duty = s.duty := by
  unfold stateWait1Cycle; split <;> simp
@[simp] theorem stateWait1Cycle_samples (s : State) : (stateWait1Cycle s).samples = s.samples := by
  unfold stateWait1Cycle; split <;> simp
@[simp] theorem stateWait1Cycle_operands (s : State) : (stateWait1Cycle s).operands = s.operands := by
  unfold stateWait1Cycle; split <;> simp
@[simp] theorem stateWait1Cycle_snap (s : State) : (stateWait1Cycle s).snap = s.snap := by
  unfold stateWait1Cycle; split <;> simp
@[simp] theorem stateWait1Cycle_dcavg (s : State) : (stateWait1Cycle s).dcavg = s.dcavg := by
  unfold stateWait1Cycle; split <;> simp
@[simp] theorem stateWait1Cycle_acavg (s : State) : (stateWait1Cycle s).acavg = s.acavg := by
  unfold stateWait1Cycle; split <;> simp
@[simp] theorem stateWait1Cycle_rms (s : State) : (stateWait1Cycle s).rms = s.rms := by
  unfold stateWait1Cycle; split <;> simp
@[simp] theorem stateWait1Cycle_piv (s : State) : (stateWait1Cycle s).piv = s.piv := by
  unfold stateWait1Cycle; split <;> simp
@[simp] theorem stateWait1Cycle_pic (s : State) : (stateWait1Cycle s).pic = s.pic := by
  unfold stateWait1Cycle; split <;> simp
@[simp] theorem stateWait1Cycle_scal (s : State) : (stateWait1Cycle s).scal = s.scal := by
  unfold stateWait1Cycle; split <;> simp
@[simp] theorem stateWait1Cycle_cfg (s : State) : (stateWait1Cycle s).cfg = s.cfg := by
  unfold stateWait1Cycle; split <;> simp
@[simp] theorem stateWait1Cycle_params (s : State) : (stateWait1Cycle s).params = s.params := by
  unfold stateWait1Cycle; split <;> simp
@[simp] theorem stateWait1Cycle_port (s : State) : (stateWait1Cycle s).port = s.port := by
  unfold stateWait1Cycle; split <;> simp
@[simp] theorem stateWait1Cycle_calAnswers (s : State) : (stateWait1Cycle s).calAnswers = s.calAnswers := by
  unfold stateWait1Cycle; split <;> simp
@[simp] theorem stateWait1Cycle_calDraws (s : State) : (stateWait1Cycle s).calDraws = s.calDraws := by
  unfold stateWait1Cycle; split <;> simp
@[simp] theorem stateWait1Cycle_tornDraws (s : State) : (stateWait1Cycle s).tornDraws = s.tornDraws := by
  unfold stateWait1Cycle; split <;> simp
@[simp] theorem stateWait1Cycle_hostReads (s : State) : (stateWait1Cycle s).hostReads = s.hostReads := by
  unfold stateWait1Cycle; split <;> simp
@[simp] theorem stateWait1Cycle_telemetryReads (s : State) : (stateWait1Cycle s).telemetryReads = s.telemetryReads := by
  unfold stateWait1Cycle; split <;> simp

/-! `stateCtrlRun`: 45_sequencer.md R300 -/

@[simp] theorem stateCtrlRun_ctrl (s : State) : (stateCtrlRun s).ctrl = s.ctrl := by
  unfold stateCtrlRun; dsimp only; repeat' split
  all_goals simp
@[simp] theorem stateCtrlRun_fault (s : State) : (stateCtrlRun s).fault = s.fault := by
  unfold stateCtrlRun; dsimp only; repeat' split
  all_goals simp
@[simp] theorem stateCtrlRun_samples (s : State) : (stateCtrlRun s).samples = s.samples := by
  unfold stateCtrlRun; dsimp only; repeat' split
  all_goals simp
@[simp] theorem stateCtrlRun_operands (s : State) : (stateCtrlRun s).operands = s.operands := by
  unfold stateCtrlRun; dsimp only; repeat' split
  all_goals simp
@[simp] theorem stateCtrlRun_dcavg (s : State) : (stateCtrlRun s).dcavg = s.dcavg := by
  unfold stateCtrlRun; dsimp only; repeat' split
  all_goals simp
@[simp] theorem stateCtrlRun_acavg (s : State) : (stateCtrlRun s).acavg = s.acavg := by
  unfold stateCtrlRun; dsimp only; repeat' split
  all_goals simp
@[simp] theorem stateCtrlRun_rms (s : State) : (stateCtrlRun s).rms = s.rms := by
  unfold stateCtrlRun; dsimp only; repeat' split
  all_goals simp
@[simp] theorem stateCtrlRun_cfg (s : State) : (stateCtrlRun s).cfg = s.cfg := by
  unfold stateCtrlRun; dsimp only; repeat' split
  all_goals simp
@[simp] theorem stateCtrlRun_params (s : State) : (stateCtrlRun s).params = s.params := by
  unfold stateCtrlRun; dsimp only; repeat' split
  all_goals simp
@[simp] theorem stateCtrlRun_port (s : State) : (stateCtrlRun s).port = s.port := by
  unfold stateCtrlRun; dsimp only; repeat' split
  all_goals simp
@[simp] theorem stateCtrlRun_calAnswers (s : State) : (stateCtrlRun s).calAnswers = s.calAnswers := by
  unfold stateCtrlRun; dsimp only; repeat' split
  all_goals simp
@[simp] theorem stateCtrlRun_calDraws (s : State) : (stateCtrlRun s).calDraws = s.calDraws := by
  unfold stateCtrlRun; dsimp only; repeat' split
  all_goals simp
@[simp] theorem stateCtrlRun_tornDraws (s : State) : (stateCtrlRun s).tornDraws = s.tornDraws := by
  unfold stateCtrlRun; dsimp only; repeat' split
  all_goals simp
@[simp] theorem stateCtrlRun_hostReads (s : State) : (stateCtrlRun s).hostReads = s.hostReads := by
  unfold stateCtrlRun; dsimp only; repeat' split
  all_goals simp
@[simp] theorem stateCtrlRun_telemetryReads (s : State) : (stateCtrlRun s).telemetryReads = s.telemetryReads := by
  unfold stateCtrlRun; dsimp only; repeat' split
  all_goals simp

/-! `stateFault`: 45_sequencer.md R301 -/

@[simp] theorem stateFault_ctrl (s : State) : (stateFault s).ctrl = s.ctrl := by
  unfold stateFault; dsimp only; repeat' split
  all_goals simp
@[simp] theorem stateFault_samples (s : State) : (stateFault s).samples = s.samples := by
  unfold stateFault; dsimp only; repeat' split
  all_goals simp
@[simp] theorem stateFault_operands (s : State) : (stateFault s).operands = s.operands := by
  unfold stateFault; dsimp only; repeat' split
  all_goals simp
@[simp] theorem stateFault_snap (s : State) : (stateFault s).snap = s.snap := by
  unfold stateFault; dsimp only; repeat' split
  all_goals simp
@[simp] theorem stateFault_dcavg (s : State) : (stateFault s).dcavg = s.dcavg := by
  unfold stateFault; dsimp only; repeat' split
  all_goals simp
@[simp] theorem stateFault_acavg (s : State) : (stateFault s).acavg = s.acavg := by
  unfold stateFault; dsimp only; repeat' split
  all_goals simp
@[simp] theorem stateFault_rms (s : State) : (stateFault s).rms = s.rms := by
  unfold stateFault; dsimp only; repeat' split
  all_goals simp
@[simp] theorem stateFault_scal (s : State) : (stateFault s).scal = s.scal := by
  unfold stateFault; dsimp only; repeat' split
  all_goals simp
@[simp] theorem stateFault_cfg (s : State) : (stateFault s).cfg = s.cfg := by
  unfold stateFault; dsimp only; repeat' split
  all_goals simp
@[simp] theorem stateFault_params (s : State) : (stateFault s).params = s.params := by
  unfold stateFault; dsimp only; repeat' split
  all_goals simp
@[simp] theorem stateFault_port (s : State) : (stateFault s).port = s.port := by
  unfold stateFault; dsimp only; repeat' split
  all_goals simp
@[simp] theorem stateFault_calAnswers (s : State) : (stateFault s).calAnswers = s.calAnswers := by
  unfold stateFault; dsimp only; repeat' split
  all_goals simp
@[simp] theorem stateFault_calDraws (s : State) : (stateFault s).calDraws = s.calDraws := by
  unfold stateFault; dsimp only; repeat' split
  all_goals simp
@[simp] theorem stateFault_tornDraws (s : State) : (stateFault s).tornDraws = s.tornDraws := by
  unfold stateFault; dsimp only; repeat' split
  all_goals simp
@[simp] theorem stateFault_hostReads (s : State) : (stateFault s).hostReads = s.hostReads := by
  unfold stateFault; dsimp only; repeat' split
  all_goals simp
@[simp] theorem stateFault_telemetryReads (s : State) : (stateFault s).telemetryReads = s.telemetryReads := by
  unfold stateFault; dsimp only; repeat' split
  all_goals simp

/-! `dispatch`: what the handlers change together (45_sequencer.md R295) -/

@[simp] theorem dispatch_ctrl (p : Phase) (s : State) : (dispatch p s).ctrl = s.ctrl := by
  cases p <;> simp [dispatch]
@[simp] theorem dispatch_samples (p : Phase) (s : State) : (dispatch p s).samples = s.samples := by
  cases p <;> simp [dispatch]
@[simp] theorem dispatch_operands (p : Phase) (s : State) : (dispatch p s).operands = s.operands := by
  cases p <;> simp [dispatch]
@[simp] theorem dispatch_cfg (p : Phase) (s : State) : (dispatch p s).cfg = s.cfg := by
  cases p <;> simp [dispatch]
@[simp] theorem dispatch_params (p : Phase) (s : State) : (dispatch p s).params = s.params := by
  cases p <;> simp [dispatch]
@[simp] theorem dispatch_port (p : Phase) (s : State) : (dispatch p s).port = s.port := by
  cases p <;> simp [dispatch]
@[simp] theorem dispatch_tornDraws (p : Phase) (s : State) : (dispatch p s).tornDraws = s.tornDraws := by
  cases p <;> simp [dispatch]
@[simp] theorem dispatch_hostReads (p : Phase) (s : State) : (dispatch p s).hostReads = s.hostReads := by
  cases p <;> simp [dispatch]
@[simp] theorem dispatch_telemetryReads (p : Phase) (s : State) : (dispatch p s).telemetryReads = s.telemetryReads := by
  cases p <;> simp [dispatch]

/-! `tickCommand`: 45_sequencer.md R293 -/

@[simp] theorem tickCommand_ctrl (s : State) : (tickCommand s).ctrl = s.ctrl := by
  unfold tickCommand; split <;> simp
@[simp] theorem tickCommand_samples (s : State) : (tickCommand s).samples = s.samples := by
  unfold tickCommand; split <;> simp
@[simp] theorem tickCommand_operands (s : State) : (tickCommand s).operands = s.operands := by
  unfold tickCommand; split <;> simp
@[simp] theorem tickCommand_cfg (s : State) : (tickCommand s).cfg = s.cfg := by
  unfold tickCommand; split <;> simp
@[simp] theorem tickCommand_params (s : State) : (tickCommand s).params = s.params := by
  unfold tickCommand; split <;> simp
@[simp] theorem tickCommand_port (s : State) : (tickCommand s).port = s.port := by
  unfold tickCommand; split <;> simp
@[simp] theorem tickCommand_tornDraws (s : State) : (tickCommand s).tornDraws = s.tornDraws := by
  unfold tickCommand; split <;> simp
@[simp] theorem tickCommand_hostReads (s : State) : (tickCommand s).hostReads = s.hostReads := by
  unfold tickCommand; split <;> simp
@[simp] theorem tickCommand_telemetryReads (s : State) : (tickCommand s).telemetryReads = s.telemetryReads := by
  unfold tickCommand; split <;> simp

/-! `initCommand`: 45_sequencer.md R292 -/

@[simp] theorem initCommand_ctrl (s : State) : (initCommand s).ctrl = s.ctrl := by
  unfold initCommand; split <;> simp
@[simp] theorem initCommand_samples (s : State) : (initCommand s).samples = s.samples := by
  unfold initCommand; split <;> simp
@[simp] theorem initCommand_operands (s : State) : (initCommand s).operands = s.operands := by
  unfold initCommand; split <;> simp
@[simp] theorem initCommand_cfg (s : State) : (initCommand s).cfg = s.cfg := by
  unfold initCommand; split <;> simp
@[simp] theorem initCommand_params (s : State) : (initCommand s).params = s.params := by
  unfold initCommand; split <;> simp
@[simp] theorem initCommand_port (s : State) : (initCommand s).port = s.port := by
  unfold initCommand; split <;> simp
@[simp] theorem initCommand_calAnswers (s : State) : (initCommand s).calAnswers = s.calAnswers := by
  unfold initCommand; split <;> simp
@[simp] theorem initCommand_calDraws (s : State) : (initCommand s).calDraws = s.calDraws := by
  unfold initCommand; split <;> simp
@[simp] theorem initCommand_tornDraws (s : State) : (initCommand s).tornDraws = s.tornDraws := by
  unfold initCommand; split <;> simp
@[simp] theorem initCommand_hostReads (s : State) : (initCommand s).hostReads = s.hostReads := by
  unfold initCommand; split <;> simp
@[simp] theorem initCommand_telemetryReads (s : State) : (initCommand s).telemetryReads = s.telemetryReads := by
  unfold initCommand; split <;> simp

/-- No command writes CTRL, the sample inputs, a configuration register or a parameter, none reads or answers a bus
access, and none takes an event of the port (10_state.md R31, R33, R36, R50). -/
theorem exec_frame {i : Instr} {s t : State} (h : exec i s = .next t) :
    t.ctrl = s.ctrl ∧ t.samples = s.samples ∧ t.cfg = s.cfg ∧ t.params = s.params ∧ t.port = s.port
      ∧ t.hostReads = s.hostReads ∧ t.telemetryReads = s.telemetryReads ∧ t.tornDraws = s.tornDraws := by
  cases i <;>
    · simp only [exec, execNop, execSat16, execClamp, execMulq, execMulshr, execDivq, execDivt, execAcc, execShra,
        execMafUpdateDcavg, execMafUpdateAcavg, execMafResetDcavg, execMafResetAcavg, execRmsUpdate, execRmsReset,
        execRect, execPiUpdatePiv, execPiUpdatePic, execPiResetPiv, execPiResetPic, execSoftstart, execVloop, execIref,
        execBoostd, execIcorr, execIloop, execFaultTrip, execFaultRecover, execEstim, execInit, execTick,
        gated_next] at h
      obtain ⟨-, rfl⟩ | ⟨-, rfl⟩ := h
      · first
          | (split_ifs <;> simp)
          | simp
      · simp

/-- Every command answers a next state: the block takes no trap (60_exceptions.md R330, R343). -/
theorem exec_isNext (i : Instr) (s : State) : ∃ t, exec i s = .next t := by
  cases i <;> exact ⟨_, rfl⟩

end Sys2Proof.Machine
end

