-- ==== Sys2Proof/Laws/PerInstr.lean ====
section
/-!
SUPPORT. Per-instruction families, one lemma per constructor of `Instr` (named in LAWS.json). `RoundTrip`: the word the
encoder writes is `{UNIT, 0000, OP}` of the instruction's fields (30_encoding.md R113), those fields are legal (R114),
and the decoder reads the instruction back.
-/
namespace Sys2Proof.Laws.RoundTrip

def Statement (i : Instr) : Prop :=
  encode i = i.fields.word ∧ i.wellFormed = true ∧ decode (encode i) = .ok i

theorem nop : Statement .nop := ⟨rfl, rfl, rfl⟩
theorem sat16 : Statement .sat16 := ⟨rfl, rfl, rfl⟩
theorem clamp : Statement .clamp := ⟨rfl, rfl, rfl⟩
theorem mulq : Statement .mulq := ⟨rfl, rfl, rfl⟩
theorem mulshr : Statement .mulshr := ⟨rfl, rfl, rfl⟩
theorem divq : Statement .divq := ⟨rfl, rfl, rfl⟩
theorem divt : Statement .divt := ⟨rfl, rfl, rfl⟩
theorem acc : Statement .acc := ⟨rfl, rfl, rfl⟩
theorem shra : Statement .shra := ⟨rfl, rfl, rfl⟩
theorem mafUpdateDcavg : Statement .mafUpdateDcavg := ⟨rfl, rfl, rfl⟩
theorem mafUpdateAcavg : Statement .mafUpdateAcavg := ⟨rfl, rfl, rfl⟩
theorem mafResetDcavg : Statement .mafResetDcavg := ⟨rfl, rfl, rfl⟩
theorem mafResetAcavg : Statement .mafResetAcavg := ⟨rfl, rfl, rfl⟩
theorem rmsUpdate : Statement .rmsUpdate := ⟨rfl, rfl, rfl⟩
theorem rmsReset : Statement .rmsReset := ⟨rfl, rfl, rfl⟩
theorem rect : Statement .rect := ⟨rfl, rfl, rfl⟩
theorem piUpdatePiv : Statement .piUpdatePiv := ⟨rfl, rfl, rfl⟩
theorem piUpdatePic : Statement .piUpdatePic := ⟨rfl, rfl, rfl⟩
theorem piResetPiv : Statement .piResetPiv := ⟨rfl, rfl, rfl⟩
theorem piResetPic : Statement .piResetPic := ⟨rfl, rfl, rfl⟩
theorem softstart : Statement .softstart := ⟨rfl, rfl, rfl⟩
theorem vloop : Statement .vloop := ⟨rfl, rfl, rfl⟩
theorem iref : Statement .iref := ⟨rfl, rfl, rfl⟩
theorem boostd : Statement .boostd := ⟨rfl, rfl, rfl⟩
theorem icorr : Statement .icorr := ⟨rfl, rfl, rfl⟩
theorem iloop : Statement .iloop := ⟨rfl, rfl, rfl⟩
theorem faultTrip : Statement .faultTrip := ⟨rfl, rfl, rfl⟩
theorem faultRecover : Statement .faultRecover := ⟨rfl, rfl, rfl⟩
theorem estim : Statement .estim := ⟨rfl, rfl, rfl⟩
theorem init : Statement .init := ⟨rfl, rfl, rfl⟩
theorem tick : Statement .tick := ⟨rfl, rfl, rfl⟩

end Sys2Proof.Laws.RoundTrip
end

