-- ==== Sys2Proof/Laws/Rules.lean ====
section
/-!
SUPPORT. Each shared operation once, as the relation its rule gives (Safety.lean): the meanings and the state handlers
are compositions of these operations, so their proofs cite these lemmas and unfold nothing.
-/
namespace Sys2Proof.Machine

/-! ## Arithmetic in the terms of the relations -/

theorem to16_toInt {v : Int} (h1 : -32768 ≤ v) (h2 : v ≤ 32767) : (to16 v).toInt = v := int16_to16 h1 h2

theorem to16_toNat {v : Int} (h1 : 0 ≤ v) (h2 : v ≤ 65535) : ((to16 v).toNat : Int) = v := uint16_to16 h1 h2

theorem to32_toInt {v : Int} (h1 : -2147483648 ≤ v) (h2 : v ≤ 2147483647) : (to32 v).toInt = v := int32_to32 h1 h2

theorem w16_toInt_range (w : W16) : -32768 ≤ w.toInt ∧ w.toInt ≤ 32767 := int16_range w

theorem w32_toInt_range (w : W32) : -2147483648 ≤ w.toInt ∧ w.toInt ≤ 2147483647 := int32_range w

theorem sat16_eq_saturated (v : Int) : sat16 v = saturated v := rfl

theorem saturated_range (v : Int) : -32768 ≤ saturated v ∧ saturated v ≤ 32767 := sat16_range v

theorem to16_saturated (v : Int) : (to16 (saturated v)).toInt = saturated v :=
  to16_toInt (saturated_range v).1 (saturated_range v).2

/-- A clamp to two int16 bounds is an int16, whatever their order. -/
theorem clamp_int16_range (v : Int) (lo hi : W16) :
    -32768 ≤ clamp v lo.toInt hi.toInt ∧ clamp v lo.toInt hi.toInt ≤ 32767 := by
  have h1 := w16_toInt_range lo
  have h2 := w16_toInt_range hi
  simp only [clamp]
  omega

theorem opSigned_low16 (r : W32) : opSigned r = low16Signed r := opSigned_eq r

theorem opUnsigned_low16 (r : W32) : opUnsigned r = low16Unsigned r := opUnsigned_eq r

theorem low16Signed_range (r : W32) : -32768 ≤ low16Signed r ∧ low16Signed r ≤ 32767 := by
  rw [← opSigned_low16]
  exact opSigned_range r

theorem low16Unsigned_range (r : W32) : 0 ≤ low16Unsigned r ∧ low16Unsigned r ≤ 65535 := by
  rw [← opUnsigned_low16]
  exact opUnsigned_range r

/-! ## Estimators -/

/-- The next count, as a number. -/
theorem wrap16u_succ (w : W16) : (wrap16u (uint16 w + 1)).toNat = (w.toNat + 1) % 65536 := by
  have h := uint16_wrap16u (uint16 w + 1)
  simp only [uint16] at h ⊢
  omega

theorem sext16_toInt (v : Int) : (sext16 v).toInt = v.bmod 65536 := int16_sext16 v

theorem wrap32_toInt (v : Int) : (wrap32 v).toInt = v.bmod (2 ^ 32) := int32_wrap32 v

/-- One sample into a moving-average unit, with a window length the guard admits (41_estimators.md R171). -/
theorem MafUnit.add_rule (n : W16) (hn : n ≠ 0) (x : Int) (m : MafUnit) (rdy : Bool) :
    MafRule n x m (if (m.add x).cnt = n then (m.add x).emit n else m.add x) rdy
      (if (m.add x).cnt = n then true else rdy) := by
  have hc : (m.add x).cnt = n ↔ (m.cnt.toNat + 1) % 65536 = n.toNat := by
    rw [← wrap16u_succ, ← BitVec.toNat_inj]
    rfl
  unfold MafRule
  by_cases h : (m.cnt.toNat + 1) % 65536 = n.toNat
  · simp only [hc.mpr h, h, if_true]
    refine ⟨?_, trivial, rfl, rfl⟩
    simp only [MafUnit.emit, hn, if_false, sext16_toInt, MafUnit.add, tdiv, int32, wrap32_toInt, uint16]
  · simp only [hc, h, if_false]
    exact ⟨wrap32_toInt _, wrap16u_succ _, rfl, trivial⟩

/-- `MafUpdate` of unit DCAVG is the rule on its registers and its flag, and changes nothing else. -/
theorem mafUpdate_dcavg_rule (x : Int) (s : State) (hn : s.cfg.dcavgN ≠ 0) :
    ∃ m rdy, MafRule s.cfg.dcavgN x s.dcavg m s.status.dcrdy rdy
      ∧ mafUpdate .dcavg x s = { s with dcavg := m, status := { s.status with dcrdy := rdy } } := by
  refine ⟨_, _, MafUnit.add_rule _ hn x s.dcavg s.status.dcrdy, ?_⟩
  by_cases h : (s.dcavg.add x).cnt = s.cfg.dcavgN <;>
    simp only [mafUpdate, State.maf, State.mafN, State.setMaf, State.setMafReady, h, if_true, if_false]

/-- `MafUpdate` of unit ACAVG is the rule on its registers and its flag, and changes nothing else. -/
theorem mafUpdate_acavg_rule (x : Int) (s : State) (hn : s.cfg.acavgN ≠ 0) :
    ∃ m rdy, MafRule s.cfg.acavgN x s.acavg m s.status.acrdy rdy
      ∧ mafUpdate .acavg x s = { s with acavg := m, status := { s.status with acrdy := rdy } } := by
  refine ⟨_, _, MafUnit.add_rule _ hn x s.acavg s.status.acrdy, ?_⟩
  by_cases h : (s.acavg.add x).cnt = s.cfg.acavgN <;>
    simp only [mafUpdate, State.maf, State.mafN, State.setMaf, State.setMafReady, h, if_true, if_false]

theorem rmsTerm_eq (sh : Nat) (x : Int) : rmsTerm sh x = squaredTerm sh x := by
  simp only [rmsTerm, squaredTerm, shra_eq_floor]

/-- One magnitude into the RMS unit, with a window length the guard admits (41_estimators.md R175, R176). -/
theorem RmsUnit.add_rule (n : W16) (hn : n ≠ 0) (sh : Nat) (x : Int) (h0 : 0 ≤ x) (h1 : x ≤ 65535) (r : RmsUnit)
    (rdy : Bool) :
    RmsRule n sh x r (if (r.add sh x).cnt = n then (r.add sh x).emit n else r.add sh x) rdy
      (if (r.add sh x).cnt = n then true else rdy) := by
  have hc : (r.add sh x).cnt = n ↔ (r.cnt.toNat + 1) % 65536 = n.toNat := by
    rw [← wrap16u_succ, ← BitVec.toNat_inj]
    rfl
  have hp : ((r.add sh x).peak.toNat : Int) = max (r.peak.toNat : Int) x := by
    have := uint16_range r.peak
    simp only [uint16] at this
    exact to16_toNat (by simp only [uint16]; omega) (by simp only [uint16]; omega)
  unfold RmsRule
  by_cases h : (r.cnt.toNat + 1) % 65536 = n.toNat
  · simp only [hc.mpr h, h, if_true]
    refine ⟨hp, ?_, trivial, rfl, rfl⟩
    simp only [RmsUnit.emit, hn, if_false, sext16_toInt, RmsUnit.add, tdiv, int32, wrap32_toInt, uint16, rmsTerm_eq]
  · simp only [hc, h, if_false]
    refine ⟨hp, ?_, wrap16u_succ _, rfl, trivial⟩
    rw [← rmsTerm_eq]
    exact wrap32_toInt _

/-- `RmsUpdate` is the rule on its registers and its flag, and changes nothing else. -/
theorem rmsUpdate_rule (x : Int) (h0 : 0 ≤ x) (h1 : x ≤ 65535) (s : State) (hn : s.cfg.rmsN ≠ 0) :
    ∃ r rdy, RmsRule s.cfg.rmsN s.params.rmsSqShift.val x s.rms r s.status.rmsrdy rdy
      ∧ rmsUpdate x s = { s with rms := r, status := { s.status with rmsrdy := rdy } } := by
  refine ⟨_, _, RmsUnit.add_rule _ hn _ x h0 h1 s.rms s.status.rmsrdy, ?_⟩
  simp only [rmsUpdate]
  split_ifs <;> rfl

theorem rectify_le (a b : W16) : (a.toInt - b.toInt).natAbs ≤ 65535 := by
  have h1 := w16_toInt_range a
  have h2 := w16_toInt_range b
  omega

/-- `Rectify` of two int16 values fits RECT (41_estimators.md R179). -/
theorem to16_rectify (a b : W16) : (to16 (rectify (int16 a) (int16 b))).toNat = (a.toInt - b.toInt).natAbs := by
  have h := rectify_le a b
  have := to16_toNat (v := rectify (int16 a) (int16 b)) (by simp only [rectify]; omega)
    (by simp only [rectify, int16]; omega)
  simp only [rectify, int16] at this ⊢
  omega

/-- `Estim` is its rule (45_sequencer.md R291). -/
theorem estim_rule (s : State) (h1 : s.cfg.dcavgN ≠ 0) (h2 : s.cfg.acavgN ≠ 0) (h3 : s.cfg.rmsN ≠ 0) :
    EstimRule s (estim s) := by
  obtain ⟨dc, r1, hdc, e1⟩ := mafUpdate_dcavg_rule (int16 s.snap.vdc) s h1
  obtain ⟨ac, r2, hac, e2⟩ := mafUpdate_acavg_rule (int16 s.snap.vac)
    { s with dcavg := dc, status := { s.status with dcrdy := r1 } } h2
  have hrect := to16_rectify s.snap.vac ac.out
  obtain ⟨rms, r3, hrms, e3⟩ := rmsUpdate_rule (uint16 (to16 (rectify (int16 s.snap.vac) (int16 ac.out))))
    (uint16_range _).1 (uint16_range _).2
    { s with
      dcavg := dc
      acavg := ac
      snap := { s.snap with vacOffset := ac.out, rect := to16 (rectify (int16 s.snap.vac) (int16 ac.out)) }
      status := { s.status with dcrdy := r1, acrdy := r2 } } h3
  refine ⟨dc, ac, rms, r1, r2, r3, _, hdc, hac, hrect, hrms, ?_⟩
  simp only [estim, e1, e2]
  exact e3

/-- Of STATUS, `Estim` writes the three ready flags alone, whatever the configuration. -/
theorem estim_status (s : State) :
    ∃ dcrdy acrdy rmsrdy,
      (estim s).status = { s.status with dcrdy := dcrdy, acrdy := acrdy, rmsrdy := rmsrdy } := by
  have hm : ∀ (x : Int) (s : State), ∃ b, (mafUpdate .dcavg x s).status = { s.status with dcrdy := b } := by
    intro x s
    unfold mafUpdate
    dsimp only
    split_ifs
    · exact ⟨true, rfl⟩
    · exact ⟨s.status.dcrdy, rfl⟩
  have ha : ∀ (x : Int) (s : State), ∃ b, (mafUpdate .acavg x s).status = { s.status with acrdy := b } := by
    intro x s
    unfold mafUpdate
    dsimp only
    split_ifs
    · exact ⟨true, rfl⟩
    · exact ⟨s.status.acrdy, rfl⟩
  have hr : ∀ (x : Int) (s : State), ∃ b, (rmsUpdate x s).status = { s.status with rmsrdy := b } := by
    intro x s
    unfold rmsUpdate
    dsimp only
    split_ifs
    · exact ⟨true, rfl⟩
    · exact ⟨s.status.rmsrdy, rfl⟩
  obtain ⟨a, h1⟩ := hm (int16 s.snap.vdc) s
  unfold estim
  dsimp only
  refine ⟨a, ?_⟩
  obtain ⟨b, h2⟩ := ha (int16 (mafUpdate .dcavg (int16 s.snap.vdc) s).snap.vac) (mafUpdate .dcavg (int16 s.snap.vdc) s)
  refine ⟨b, ?_⟩
  generalize mafUpdate .acavg _ _ = m at *
  obtain ⟨c, h3⟩ := hr (uint16 (to16 (rectify (int16 m.snap.vac) (int16 m.acavg.out))))
    { m with snap := { m.snap with
      vacOffset := m.acavg.out
      rect := to16 (rectify (int16 m.snap.vac) (int16 m.acavg.out)) } }
  refine ⟨c, h3.trans ?_⟩
  dsimp only
  rw [h2, h1]

@[simp] theorem estim_status_state (s : State) : (estim s).status.state = s.status.state := by
  obtain ⟨a, b, c, h⟩ := estim_status s
  rw [h]
@[simp] theorem estim_status_outen (s : State) : (estim s).status.outen = s.status.outen := by
  obtain ⟨a, b, c, h⟩ := estim_status s
  rw [h]
@[simp] theorem estim_status_calrdy (s : State) : (estim s).status.calrdy = s.status.calrdy := by
  obtain ⟨a, b, c, h⟩ := estim_status s
  rw [h]
@[simp] theorem estim_status_configured (s : State) : (estim s).status.configured = s.status.configured := by
  obtain ⟨a, b, c, h⟩ := estim_status s
  rw [h]
@[simp] theorem estim_status_cfgerr (s : State) : (estim s).status.cfgerr = s.status.cfgerr := by
  obtain ⟨a, b, c, h⟩ := estim_status s
  rw [h]
@[simp] theorem estim_status_illegal (s : State) : (estim s).status.illegal = s.status.illegal := by
  obtain ⟨a, b, c, h⟩ := estim_status s
  rw [h]

/-! ## PI units -/

/-- The PI_UPDATE command past its gate, for both units (42_pi.md R202). -/
theorem exec_piUpdate (p : PiSel) (s : State) (h : s.debugReady) :
    exec p.update s = .next (piUpdate p (to16 (opSigned s.operands.a)) (s.piCfg p).ki s) := by
  obtain ⟨ht, hc⟩ := h
  cases p <;>
    simp only [PiSel.update, exec, execPiUpdatePiv, execPiUpdatePic, gated, Gate.holds, State.piCfg, ht, hc] <;> rfl

/-- An update agrees with the PI_UPDATE command on equal arguments, whatever the algorithm (42_pi.md R203 law 4). -/
theorem piAlgorithm_agrees (alg : PiAlgorithm) (c : PiCfg) (e ki : W16) (u : PiUnit) :
    let v := piAlgorithm alg { integ := u.integ, e := e, kiEff := ki, kp := c.kp, kps := c.kps, kis := c.kis, min := c.min, max := c.max }
    AgreesWithPiUpdate alg c e.toInt ki.toInt u { u with err := e, integ := v.integ, out := v.out } := by
  intro v p r hr halg hinteg he hki hcfg
  have hk : (r.piCfg p).ki = ki := BitVec.eq_of_toInt_eq hki
  have hx : to16 (opSigned r.operands.a) = e := by
    refine BitVec.eq_of_toInt_eq ?_
    have hrange := low16Signed_range r.operands.a
    rw [opSigned_low16, to16_toInt hrange.1 hrange.2, he]
  rw [hk] at hcfg
  refine ⟨e, ?_⟩
  rw [exec_piUpdate p r hr, hk, hx]
  simp only [piUpdate, hcfg, halg, hinteg, v]

/-- `PI_UPDATE`, whichever algorithm it is, obeys its rule (42_pi.md R203, R204). -/
theorem piUpdate_rule (alg : PiAlgorithm) (c : PiCfg) (e ki : W16) (u : PiUnit) :
    let v := piAlgorithm alg { integ := u.integ, e := e, kiEff := ki, kp := c.kp, kps := c.kps, kis := c.kis, min := c.min, max := c.max }
    PiRule alg c e.toInt ki.toInt u { u with err := e, integ := v.integ, out := v.out } := by
  refine ⟨rfl, rfl, ?_⟩
  cases alg with
  | default =>
    have hr := clamp_int16_range (int32 u.integ + shra (int16 ki * int16 e) c.kis.toNat) c.min c.max
    have hi := to32_toInt (v := clamp (int32 u.integ + shra (int16 ki * int16 e) c.kis.toNat) c.min.toInt c.max.toInt)
      (by omega) (by omega)
    have ho := clamp_int16_range (shra (int16 c.kp * int16 e) c.kps.toNat
      + clamp (int32 u.integ + shra (int16 ki * int16 e) c.kis.toNat) c.min.toInt c.max.toInt) c.min c.max
    refine ⟨?_, ?_⟩
    · simp only [piAlgorithm, piDefault]
      exact hi.trans (by simp only [clamp, shra_eq_floor, int16, int32])
    · simp only [piAlgorithm, piDefault]
      refine (to16_toInt ho.1 ho.2).trans ?_
      simp only [int16, int32] at hi ⊢
      rw [hi]
      simp only [clamp, shra_eq_floor]
  | anyLawful =>
    refine ⟨piAlgorithm_agrees .anyLawful c e ki u, fun h => ?_⟩
    have hi := clamp_int16_range (BitVec.toInt (Config.piFree
      { integ := u.integ, e := e, kiEff := ki, kp := c.kp, kps := c.kps, kis := c.kis, min := c.min, max := c.max }).out) c.min c.max
    simp only [piAlgorithm, piAnyLawful, int16, h, if_true]
    rw [to16_toInt hi.1 hi.2]
    exact ⟨clamp_ge_lo _ _ _, clamp_le_hi _ h⟩

theorem piUpdate_piv_rule (e ki : W16) (s : State) :
    ∃ u, PiRule s.params.piUpdate s.cfg.piv e.toInt ki.toInt s.piv u ∧ piUpdate .piv e ki s = { s with piv := u } :=
  ⟨_, piUpdate_rule s.params.piUpdate s.cfg.piv e ki s.piv, rfl⟩

theorem piUpdate_pic_rule (e ki : W16) (s : State) :
    ∃ u, PiRule s.params.piUpdate s.cfg.pic e.toInt ki.toInt s.pic u ∧ piUpdate .pic e ki s = { s with pic := u } :=
  ⟨_, piUpdate_rule s.params.piUpdate s.cfg.pic e ki s.pic, rfl⟩

/-! ## Control loop -/

/-- `SoftStart` is its rule where the step is not negative (43_control.md R231). -/
theorem softStart_rule (s : State) (h : 0 ≤ s.cfg.ssStep.toInt) : SoftStartRule s (softStart s) := by
  have h1 := w16_toInt_range s.piv.ref
  have h2 := w16_toInt_range s.cfg.vrefFinal
  have h3 := s.scal.ssCnt.isLt
  unfold SoftStartRule softStart
  simp only [int16, uint16]
  by_cases hr : s.piv.ref.toInt < s.cfg.vrefFinal.toInt
  · simp only [hr, if_true]
    by_cases hc : 1 < s.scal.ssCnt.toNat
    · have hc' : (s.scal.ssCnt.toNat : Int) > 1 := by omega
      simp only [hc, hc', if_true]
      refine ⟨_, ?_, rfl⟩
      have := to16_toNat (v := (s.scal.ssCnt.toNat : Int) - 1) (by omega) (by omega)
      omega
    · have hc' : ¬ (s.scal.ssCnt.toNat : Int) > 1 := by omega
      simp only [hc, hc', if_false]
      exact ⟨_, to16_toInt (by omega) (by omega), rfl⟩
  · simp only [hr, if_false]

/-- `GainSchedule` as a number (43_control.md R233). -/
theorem gainSchedule_toInt (ki : W16) (e : Int) :
    (gainSchedule ki e).toInt = if 700 < e.natAbs then ki.toInt / 2 else ki.toInt := by
  have h := w16_toInt_range ki
  unfold gainSchedule
  simp only [gsThresh, int16]
  by_cases hc : 700 < e.natAbs
  · have hc' : (e.natAbs : Int) > 700 := by omega
    simp only [hc, hc', if_true, shra_eq_floor]
    exact to16_toInt (by omega) (by omega)
  · have hc' : ¬ (e.natAbs : Int) > 700 := by omega
    simp only [hc, hc', if_false]

/-- `VLoop` is its rule (43_control.md R232). -/
theorem vLoop_rule (s : State) : VLoopRule s (vLoop s) := by
  have hw := wrap16u_succ s.scal.vlCnt
  unfold VLoopRule vLoop
  simp only [int16]
  by_cases hc : s.cfg.vlDiv.toNat < (s.scal.vlCnt.toNat + 1) % 65536
  · have hc' : uint16 (wrap16u (uint16 s.scal.vlCnt + 1)) > uint16 s.cfg.vlDiv := by
      simp only [uint16] at hw ⊢
      omega
    simp only [hc, hc', if_true]
    obtain ⟨u, hu, he⟩ := piUpdate_piv_rule (to16 (saturated (s.piv.ref.toInt - s.dcavg.out.toInt)))
      (gainSchedule s.cfg.piv.ki (saturated (s.piv.ref.toInt - s.dcavg.out.toInt)))
      { s with scal := { s.scal with vlCnt := 0 } }
    refine ⟨u, ?_, he⟩
    rwa [to16_saturated, gainSchedule_toInt] at hu
  · have hc' : ¬ uint16 (wrap16u (uint16 s.scal.vlCnt + 1)) > uint16 s.cfg.vlDiv := by
      simp only [uint16] at hw ⊢
      omega
    simp only [hc, hc', if_false]
    exact ⟨_, hw, rfl⟩

/-- `IRef` is its rule (43_control.md R234). -/
theorem iRef_rule (s : State) : IRefRule s (iRef s) := by
  refine ⟨_, ?_, rfl⟩
  have he : irefRaw s.ctrl.pbalEn (int16 s.piv.out) (uint16 s.snap.rect) (int16 s.rms.out) (int16 s.cfg.shapeK)
      = shapedReference s := by
    simp only [irefRaw, shapedReference, shra_eq_floor, int16, uint16, irefShift1, irefShift2, qShift, tdiv, gt_iff_lt]
  rw [he]
  exact to16_toInt (by simp only [clamp, irefMax]; omega) (by simp only [clamp, irefMax]; omega)

/-- `BoostD` is its rule (43_control.md R235). -/
theorem boostD_rule (s : State) : BoostDRule s (boostD s) := by
  unfold BoostDRule boostD
  simp only [int16, uint16, gt_iff_lt]
  split_ifs
  · exact ⟨_, to16_saturated _, rfl⟩
  · rfl

/-- `ICorr` is its rule (43_control.md R236). -/
theorem iCorr_rule (s : State) : ICorrRule s (iCorr s) := by
  unfold ICorrRule iCorr
  split_ifs
  · exact ⟨_, to16_saturated _, rfl⟩
  · rfl

/-- The DCM-corrected average is an int16: |t * IL| < 2^30 (43_control.md R237). -/
theorem averageCurrent_range (t : Int) (il : W16) (h1 : -32768 ≤ t) (h2 : t ≤ 32767) (h : 1 ≤ il.toInt) :
    -32768 ≤ t * il.toInt / 2 ^ 15 ∧ t * il.toInt / 2 ^ 15 ≤ 32767 := by
  have h3 := w16_toInt_range il
  have h4 : -32768 * 32768 ≤ t * il.toInt := by nlinarith
  have h5 : t * il.toInt ≤ 32767 * 32767 := by nlinarith
  omega

/-- `ILoop` is its rule (43_control.md R237 to R239). -/
theorem iLoop_rule (s : State) : ILoopRule s (iLoop s) := by
  have hil := w16_toInt_range s.snap.il
  have h1 : (to16 (max (int16 s.snap.il) ilMin)).toInt = max s.snap.il.toInt 1 :=
    to16_toInt (by simp only [int16, ilMin]; omega) (by simp only [int16, ilMin]; omega)
  have h2 : (to16 (averageCurrent s.ctrl.dcmEn (int16 s.scal.boostd) (int16 s.pic.out)
        (int16 (to16 (max (int16 s.snap.il) ilMin))))).toInt =
      (if s.ctrl.dcmEn = true ∧ 0 < s.scal.boostd.toInt then
          saturated ((s.pic.out.toInt * 32768).tdiv s.scal.boostd.toInt)
            * (to16 (max (int16 s.snap.il) ilMin)).toInt / 2 ^ 15
        else (to16 (max (int16 s.snap.il) ilMin)).toInt) := by
    simp only [averageCurrent, int16, tdiv, gt_iff_lt, sat16_eq_saturated, shra_eq_floor, qShift]
    split_ifs
    · have hs := saturated_range ((s.pic.out.toInt * 32768).tdiv s.scal.boostd.toInt)
      have := averageCurrent_range _ (to16 (max (int16 s.snap.il) ilMin)) hs.1 hs.2 (by rw [h1]; omega)
      exact to16_toInt this.1 this.2
    · exact to16_int16 _ ▸ rfl
  obtain ⟨u, hu, he⟩ := piUpdate_pic_rule
    (to16 (saturated (s.scal.iref.toInt - (to16 (averageCurrent s.ctrl.dcmEn (int16 s.scal.boostd) (int16 s.pic.out)
      (int16 (to16 (max (int16 s.snap.il) ilMin))))).toInt)))
    s.cfg.pic.ki
    { s with
      snap := { s.snap with il := to16 (max (int16 s.snap.il) ilMin) }
      scal := { s.scal with iavg := to16 (averageCurrent s.ctrl.dcmEn (int16 s.scal.boostd) (int16 s.pic.out)
        (int16 (to16 (max (int16 s.snap.il) ilMin)))) }
      pic := { s.pic with ref := s.scal.iref } }
  have hlo := uint16_range s.cfg.dutyMin
  have hhi := uint16_range s.cfg.dutyMax
  have h3 : ((to16 (clamp (shra (int16 u.out * uint16 s.cfg.period) qShift) (uint16 s.cfg.dutyMin)
        (uint16 s.cfg.dutyMax))).toNat : Int) =
      max (s.cfg.dutyMin.toNat : Int) (min (u.out.toInt * s.cfg.period.toNat / 2 ^ 15) s.cfg.dutyMax.toNat) := by
    rw [to16_toNat (by simp only [clamp]; omega) (by simp only [clamp]; omega), shra_eq_floor]
    rfl
  refine ⟨_, _, _, u, h1, h2, ?_, h3, ?_⟩
  · rwa [to16_saturated] at hu
  · simp only [iLoop]
    simp only [int16, sat16_eq_saturated] at he ⊢
    rw [he]
    simp only [standbyOverride, dutyConvert, int16, uint16]
    split_ifs <;> first | rfl | simp_all

/-! ## Fault monitor -/

theorem getLsbD_outOv (k : Nat) : outOv.getLsbD k = decide (k = 0) := by
  rcases k with _ | _ | _ | k
  · decide
  · decide
  · decide
  · simp [outOv, BitVec.getLsbD, Nat.testBit_succ]

theorem getLsbD_inUv (k : Nat) : inUv.getLsbD k = decide (k = 1) := by
  rcases k with _ | _ | _ | k
  · decide
  · decide
  · decide
  · simp [inUv, BitVec.getLsbD, Nat.testBit_succ]

theorem getLsbD_inOv (k : Nat) : inOv.getLsbD k = decide (k = 2) := by
  rcases k with _ | _ | _ | k
  · decide
  · decide
  · decide
  · simp [inOv, BitVec.getLsbD, Nat.testBit_succ]

/-- A bit of a set mask under OR (44_fault.md R271). -/
theorem faultSet_or_getLsbD (b : W16) (s : State) (h : s.params.faultSetMode = .or) (k : Nat) :
    (s.faultSet b).fault.getLsbD k = (s.fault.getLsbD k || b.getLsbD k) := by
  simp only [State.faultSet, h, BitVec.getLsbD_or]

/-- A set mask under ADD (44_fault.md R271). -/
theorem faultSet_add_toNat (b : W16) (s : State) (h : s.params.faultSetMode = .add) :
    (s.faultSet b).fault.toNat = (s.fault.toNat + b.toNat) % 65536 := by
  simp only [State.faultSet, h, BitVec.toNat_add]

/-- A bit of a cleared mask (44_fault.md R271). -/
theorem faultClear_getLsbD (b : W16) (s : State) (k : Nat) :
    (s.faultClear b).fault.getLsbD k = (s.fault.getLsbD k && !b.getLsbD k) := by
  simp only [State.faultClear, BitVec.getLsbD_and, BitVec.getLsbD_not]
  by_cases h : k < 16
  · simp only [h, decide_true, Bool.true_and]
  · simp only [BitVec.getLsbD_of_ge s.fault k (by omega), Bool.false_and]

/-- `FaultTrip` writes the mask alone. -/
theorem faultTrip_eq (s : State) : faultTrip s = { s with fault := (faultTrip s).fault } := by
  unfold faultTrip State.faultSet
  dsimp only
  split_ifs <;> rfl

/-- `FaultRecover` writes the mask alone. -/
theorem faultRecover_eq (s : State) : faultRecover s = { s with fault := (faultRecover s).fault } := by
  unfold faultRecover State.faultClear
  dsimp only
  split_ifs <;> rfl

/-- `FaultTrip` is its rule, in both modes (44_fault.md R271, R272). -/
theorem faultTrip_rule (s : State) : TripRule s (faultTrip s).fault := by
  unfold TripRule
  cases hm : s.params.faultSetMode
  · refine ⟨?_, ?_, ?_, fun k hk => ?_⟩ <;>
    · unfold faultTrip
      simp only [int16, ge_iff_le, State.faultSet, hm]
      split_ifs <;>
        simp (disch := omega) only [BitVec.getLsbD_or, getLsbD_outOv, getLsbD_inUv, getLsbD_inOv, decide_true,
          decide_false, Bool.or_false, Bool.or_true, decide_eq_false, *]
  · unfold faultTrip
    simp only [int16, ge_iff_le, State.faultSet, hm]
    have h0 : outOv.toNat = 1 := rfl
    have h1 : inUv.toNat = 2 := rfl
    have h2 : inOv.toNat = 4 := rfl
    split_ifs <;>
      simp only [BitVec.toNat_add, decide_true, decide_false, Bool.toNat_true,
        Bool.toNat_false, *] <;>
      omega

/-- `FaultRecover` is its rule (44_fault.md R273). -/
theorem faultRecover_rule (s : State) : RecoverRule s (faultRecover s).fault := by
  have hk : ∀ k, (faultRecover s).fault.getLsbD k =
      (s.fault.getLsbD k
        && !(decide (s.cfg.acUvRec.toInt < s.rms.out.toInt) && decide (k = 1))
        && !(decide (s.rms.out.toInt < s.cfg.acOvRec.toInt) && decide (k = 2))
        && !(decide (s.dcavg.out.toInt < s.cfg.dcOvRec.toInt) && decide (k = 0))) := by
    intro k
    unfold faultRecover
    simp only [int16, gt_iff_lt, State.faultClear]
    split_ifs <;>
      simp only [← getLsbD_outOv, ← getLsbD_inUv, ← getLsbD_inOv, decide_true, decide_false,
        Bool.true_and, Bool.false_and, Bool.not_false, Bool.and_true, *] <;>
      (by_cases h : k < 16
       · simp only [BitVec.getLsbD_and, BitVec.getLsbD_not, h, decide_true, Bool.true_and]
       · simp only [BitVec.getLsbD_of_ge _ k (by omega : 16 ≤ k), Bool.false_and])
  refine ⟨?_, ?_, ?_, fun k h => ?_⟩ <;> rw [hk]
  · simp
  · simp
  · simp
  · have h0 : k ≠ 0 := by omega
    have h1 : k ≠ 1 := by omega
    have h2 : k ≠ 2 := by omega
    simp [h0, h1, h2]

/-! ## Sequencer -/

theorem PiCfg.legal_iff (c : PiCfg) : c.legal = true ↔
    0 ≤ c.kp.toInt ∧ 0 ≤ c.ki.toInt ∧ c.kps.toNat ≤ 31 ∧ c.kis.toNat ≤ 31 ∧ c.min.toInt ≤ c.max.toInt := by
  simp only [PiCfg.legal, Bool.and_eq_true, decide_eq_true_eq, and_assoc]
  rfl

/-- What a configuration that passed its check is good for: the window lengths divide, the step is not negative. -/
theorem Cfg.legal_spec {c : Cfg} (h : c.legal = true) :
    c.dcavgN ≠ 0 ∧ c.acavgN ≠ 0 ∧ c.rmsN ≠ 0 ∧ 0 ≤ c.ssStep.toInt ∧ c.dutyMin.toNat ≤ c.dutyMax.toNat
      ∧ c.piv.min.toInt ≤ c.piv.max.toInt ∧ c.pic.min.toInt ≤ c.pic.max.toInt ∧ c.vlDiv.toNat ≤ 65534 := by
  simp only [Cfg.legal, Bool.and_eq_true, decide_eq_true_eq, PiCfg.legal_iff] at h
  obtain ⟨⟨⟨⟨⟨⟨⟨⟨h1, h2⟩, h3⟩, h4⟩, h5⟩, h6⟩, h7⟩, h8⟩, h9⟩ := h
  refine ⟨?_, ?_, ?_, h8, h6, h4.2.2.2.2, h5.2.2.2.2, h9⟩ <;> (rintro h; simp [h] at h1 h2 h3)

/-- Taking an answer changes only what waits of the answers and how many were drawn (60_exceptions.md R349). -/
theorem takeCalAnswer_eq (s : State) :
    s.takeCalAnswer =
      { s with calAnswers := s.takeCalAnswer.calAnswers, calDraws := s.takeCalAnswer.calDraws } := by
  unfold State.takeCalAnswer
  split <;> rfl

/-- What `cal_update` does, in full (60_exceptions.md R349, 45_sequencer.md R298). -/
theorem calUpdate_eq (s : State) :
    s.calUpdate =
      { s with
        status := { s.status with calrdy := s.calAnswer.ready }
        snap := { s.snap with ilOffset := s.calAnswer.offset }
        calls := s.calls ++ [.calUpdate]
        calAnswers := s.takeCalAnswer.calAnswers
        calDraws := s.takeCalAnswer.calDraws } := by
  unfold State.calUpdate State.call State.takeCalAnswer
  cases s.calAnswers <;> rfl

/-- Latch, Estim and FaultTrip in order are what every TICK does before its handler (45_sequencer.md R293). -/
theorem measure_rule (s : State) (h : s.cfg.legal = true) : MeasureRule s (faultTrip (estim s.latch)) := by
  obtain ⟨h1, h2, h3, -⟩ := Cfg.legal_spec h
  exact ⟨estim s.latch, _, estim_rule s.latch h1 h2 h3, faultTrip_rule _, faultTrip_eq _⟩

/-- A configured TICK in the state with code k runs that state's handler on what Latch, Estim and FaultTrip left. -/
theorem exec_tick_of_phase {s : State} {p : Phase} (hc : s.status.configured = true)
    (hp : Phase.ofCode s.status.state = some p) :
    exec .tick s = .next (dispatch p (faultTrip (estim s.latch))) := by
  simp only [exec, execTick, gated, Gate.holds, hc, if_true, tickCommand, hp]

theorem Phase.ofCode_eq {c : BitVec 3} : ∀ {p : Phase}, c.toNat = p.code.toNat → Phase.ofCode c = some p
  | .init, h => by unfold Phase.ofCode; rw [h]; rfl
  | .offsetMeas, h => by unfold Phase.ofCode; rw [h]; rfl
  | .wait1Cycle, h => by unfold Phase.ofCode; rw [h]; rfl
  | .ctrlRun, h => by unfold Phase.ofCode; rw [h]; rfl
  | .fault, h => by unfold Phase.ofCode; rw [h]; rfl

/-- The phases are the codes 0 to 4. -/
theorem Phase.of_le_four {c : BitVec 3} (h : c.toNat ≤ 4) : ∃ p, Phase.ofCode c = some p ∧ c = Phase.code p := by
  revert h
  revert c
  decide

/-! The five handlers, each as one update of the state it runs on (45_sequencer.md R297 to R301). -/

theorem stateInit_eq (f : State) :
    stateInit f =
      { f with
        dcavg := { sum := 0, cnt := 0, out := 0 }
        acavg := { sum := 0, cnt := 0, out := 0 }
        rms := { sum := 0, cnt := 0, out := 0, peak := 0 }
        piv := { ref := f.piv.ref, err := 0, integ := 0, out := 0 }
        pic := { ref := f.pic.ref, err := 0, integ := 0, out := 0 }
        snap := { f.snap with vacOffset := 0 }
        duty := 0
        scal := { f.scal with vlCnt := 0, ssCnt := f.cfg.ssPeriod }
        status :=
          { f.status with state := 1, outen := false, calrdy := false, dcrdy := false, acrdy := false, rmsrdy := false }
        calls := f.calls ++ [.disableOutputs, .calStart] } := by
  simp [stateInit, mafReset, rmsReset, piClear, State.setMaf, State.setMafReady, State.setRmsReady, State.setPi,
    State.pi, State.disableOutputs, State.calStart, State.call, State.setPhase, Phase.code, MafUnit.zero, RmsUnit.zero]

/-- The state a calibration answer leaves in OFFSET_MEAS, before the exit test (R298). -/
theorem stateOffsetMeas_eq (f : State) :
    stateOffsetMeas f =
      if f.calAnswer.ready = true ∧ f.status.dcrdy = true then
        { f.calUpdate with
          piv := { f.piv with ref := f.dcavg.out }
          snap := { f.snap with ilOffset := f.calAnswer.offset, vacOffset := f.acavg.out }
          status := { f.status with calrdy := f.calAnswer.ready, state := 2 } }
      else f.calUpdate := by
  simp only [stateOffsetMeas, calUpdate_eq f, Bool.and_eq_true]
  split_ifs <;> rfl

theorem stateWait1Cycle_eq (f : State) :
    stateWait1Cycle f =
      if f.status.rmsrdy = true then
        { f with
          status := { f.status with outen := true, state := 3 }
          calls := f.calls ++ [.enableOutputs] }
      else f := rfl

theorem stateCtrlRun_eq (f : State) :
    stateCtrlRun f =
      if f.fault ≠ 0 then
        { iCorr f with
          status := { f.status with state := 4, outen := false }
          duty := 0
          calls := f.calls ++ [.disableOutputs] }
      else iLoop (boostD (iRef (vLoop (softStart (iCorr f))))) := by
  have h1 := iCorr_fault f
  have h2 := iCorr_status f
  have h3 := iCorr_calls f
  simp only [stateCtrlRun, h1]
  split_ifs
  · simp only [State.faultEntry, State.setPhase, State.disableOutputs, State.call, Phase.code, h1, h2, h3]
  · rfl

theorem stateFault_eq (f : State) :
    stateFault f =
      if (faultRecover f).fault = 0 then
        { f with
          fault := (faultRecover f).fault
          duty := 0
          piv := { f.piv with integ := 0, ref := f.dcavg.out }
          pic := { f.pic with integ := 0 }
          status := { f.status with outen := true, state := 3 }
          calls := f.calls ++ [.disableOutputs] ++ [.enableOutputs] }
      else
        { f with
          fault := (faultRecover f).fault
          duty := 0
          status := { f.status with outen := false }
          calls := f.calls ++ [.disableOutputs] } := by
  have hf : (faultRecover ({ f with duty := 0 } : State).disableOutputs).fault = (faultRecover f).fault := by
    unfold faultRecover State.disableOutputs State.call State.faultClear
    dsimp only
    split_ifs <;> rfl
  have e := faultRecover_eq ({ f with duty := 0 } : State).disableOutputs
  rw [hf] at e
  simp only [stateFault]
  rw [e]
  generalize (faultRecover f).fault = m
  split_ifs <;> rfl

end Sys2Proof.Machine
end

