-- ==== Sys2Proof/Tests/Slice0.lean ====
section
/-!
SUPPORT. Tests. Expected values are those of the spec's own tables, named at each test; words are written out bit by bit
from 30_encoding.md R110 and R113. After them, for every statement with hypotheses, a concrete state that meets them.
-/
namespace Sys2Proof.Tests
open Sys2Proof Sys2Proof.Machine

/-! ## Well-formedness: one ill-formed term for each check (30_encoding.md R114, R115) -/

theorem test_unlisted_op_refused : WordFields.check ⟨0, 0, 0x53⟩ = .error .unlistedOp := by decide
theorem test_nonzero_rsv_refused : WordFields.check ⟨0, 1, 0x52⟩ = .error .nonzeroRsv := by decide
theorem test_unlisted_unit_refused : WordFields.check ⟨3, 0, 0x10⟩ = .error .unlistedUnit := by decide
theorem test_ill_formed_terms : (WordFields.wellFormed ⟨0, 0, 0x09⟩ = false) ∧ (WordFields.wellFormed ⟨6, 0, 0x20⟩ = false) := by
  decide

/-! ## Decoding: {UNIT, 0000, OP}, bit by bit -/

theorem test_decode_nop : decode 0b0000_0000_0000_0000 = .ok .nop := by decide
theorem test_decode_sat16 : decode 0b0000_0000_0000_0001 = .ok .sat16 := by decide
theorem test_decode_clamp : decode 0b0000_0000_0000_0010 = .ok .clamp := by decide
theorem test_decode_mulq : decode 0b0000_0000_0000_0011 = .ok .mulq := by decide
theorem test_decode_mulshr : decode 0b0000_0000_0000_0100 = .ok .mulshr := by decide
theorem test_decode_divq : decode 0b0000_0000_0000_0101 = .ok .divq := by decide
theorem test_decode_divt : decode 0b0000_0000_0000_0110 = .ok .divt := by decide
theorem test_decode_acc : decode 0b0000_0000_0000_0111 = .ok .acc := by decide
theorem test_decode_shra : decode 0b0000_0000_0000_1000 = .ok .shra := by decide
theorem test_decode_mafUpdateDcavg : decode 0b0001_0000_0001_0000 = .ok .mafUpdateDcavg := by decide
theorem test_decode_mafUpdateAcavg : decode 0b0010_0000_0001_0000 = .ok .mafUpdateAcavg := by decide
theorem test_decode_mafResetDcavg : decode 0b0001_0000_0001_0001 = .ok .mafResetDcavg := by decide
theorem test_decode_mafResetAcavg : decode 0b0010_0000_0001_0001 = .ok .mafResetAcavg := by decide
theorem test_decode_rmsUpdate : decode 0b0011_0000_0001_0010 = .ok .rmsUpdate := by decide
theorem test_decode_rmsReset : decode 0b0011_0000_0001_0011 = .ok .rmsReset := by decide
theorem test_decode_rect : decode 0b0000_0000_0001_0100 = .ok .rect := by decide
theorem test_decode_piUpdatePiv : decode 0b0100_0000_0010_0000 = .ok .piUpdatePiv := by decide
theorem test_decode_piUpdatePic : decode 0b0101_0000_0010_0000 = .ok .piUpdatePic := by decide
theorem test_decode_piResetPiv : decode 0b0100_0000_0010_0001 = .ok .piResetPiv := by decide
theorem test_decode_piResetPic : decode 0b0101_0000_0010_0001 = .ok .piResetPic := by decide
theorem test_decode_softstart : decode 0b0000_0000_0011_0000 = .ok .softstart := by decide
theorem test_decode_vloop : decode 0b0000_0000_0011_0001 = .ok .vloop := by decide
theorem test_decode_iref : decode 0b0000_0000_0011_0010 = .ok .iref := by decide
theorem test_decode_boostd : decode 0b0000_0000_0011_0011 = .ok .boostd := by decide
theorem test_decode_icorr : decode 0b0000_0000_0011_0100 = .ok .icorr := by decide
theorem test_decode_iloop : decode 0b0000_0000_0011_0101 = .ok .iloop := by decide
theorem test_decode_faultTrip : decode 0b0000_0000_0100_0000 = .ok .faultTrip := by decide
theorem test_decode_faultRecover : decode 0b0000_0000_0100_0001 = .ok .faultRecover := by decide
theorem test_decode_estim : decode 0b0000_0000_0101_0000 = .ok .estim := by decide
theorem test_decode_init : decode 0b0000_0000_0101_0001 = .ok .init := by decide
theorem test_decode_tick : decode 0b0000_0000_0101_0010 = .ok .tick := by decide

/-- Illegal words of table V30-1. -/
theorem test_illegal_words :
    decode 0x0009 = .error .unlistedOp ∧ decode 0x00FF = .error .unlistedOp ∧ decode 0x0100 = .error .nonzeroRsv
      ∧ decode 0x8000 = .error .unlistedUnit ∧ decode 0x1012 = .error .unlistedUnit ∧ decode 0xF020 = .error .unlistedUnit
      ∧ decode 0x1030 = .error .unlistedUnit := by decide

theorem test_table_word : decodeTableWord 16 0x5020 = some .piUpdatePic ∧ decodeTableWord 16 0x6020 = none := by decide

/-! ## Helpers -/

/-- The state an outcome goes on in; the block never stops, so the last line is never taken. -/
def go : Result → State
  | .next t => t
  | .fault r => nomatch r
  | .refused _ => State.reset

def after (i : Instr) (s : State) : State := go (exec i s)

/-- The PI configuration of block K1 (95_test_vectors.md 3.0). -/
def k1Pi : PiCfg := { kp := 16384, kps := 15, ki := 1024, kis := 10, min := 0, max := 32767 }

/-- Block K1 (95_test_vectors.md 3.0). -/
def k1 : Cfg :=
  { dcavgN := 2, acavgN := 2, rmsN := 2, piv := k1Pi, pic := k1Pi, vlDiv := 0, shapeK := 4096, period := 4000
    dutyMin := 100, dutyMax := 3800, awCeil := 30000, voutMinpk := 50, ssStep := 100, ssPeriod := 2, vrefFinal := 16400
    dcOvLim := 30000, dcOvRec := 28000, acUvLim := 1000, acUvRec := 1500, acOvLim := 20000, acOvRec := 18000 }

/-- The state after K1 and a passing INIT, without its call: STATUS = 0x0100, OCORR_EN = 1. -/
def ready : State :=
  { State.reset with
    cfg := k1
    ctrl := { State.reset.ctrl with ocorrEn := true }
    status := { State.reset.status with configured := true } }

/-- The same with the trigger enabled. -/
def armed : State := { ready with ctrl := { ready.ctrl with trigen := true } }

/-- Configured, in the state with code k. -/
def inPhase (k : BitVec 3) : State := { ready with status := { ready.status with state := k } }

/-- Power-on with the operand registers set. -/
def ops (a b c res : Int) : State :=
  { State.reset with operands :=
      { a := BitVec.ofInt 32 a, b := BitVec.ofInt 32 b, c := BitVec.ofInt 32 c, res := BitVec.ofInt 32 res } }

def withA (a : Int) (s : State) : State := { s with operands := { s.operands with a := BitVec.ofInt 32 a } }

/-- The result register of a primitive, as an integer. -/
def res (i : Instr) (s : State) : Int := (after i s).operands.res.toInt

/-! ## The port (20_memory.md R90, 30_encoding.md R115, R122) -/

theorem test_step_idles : step State.reset = .next State.reset := by rfl

theorem test_step_runs_word :
    (go (step ({ ready with port := [.busRead 1] }.withFetchWord 16 0x0052))).status.state = 1
      ∧ (go (step (ready.withFetchWord 16 0x0052))).port = [] := by decide

/-- V30-2, row 7: TICK refused on an unconfigured block, through the trigger. -/
theorem test_trigger_gate :
    statusWord (go (step { State.reset with
      ctrl := { State.reset.ctrl with trigen := true }, port := [.trig] })).status = 0x0400 := by decide

/-- V20, row 13: the options keep their value while TRIGEN = 1. -/
theorem test_ctrl_write_refused :
    ctrlWord (busWrite 0x00 0x0005 armed).ctrl = 0x0003 ∧ statusWord (busWrite 0x00 0x0005 armed).status = 0x0500 := by
  decide

/-- V20, rows 1, 9 and 10. -/
theorem test_bus_writes :
    statusWord (busWrite 0x01 5 State.reset).status = 0x0400
      ∧ (busWrite 0x0D 0x8000 State.reset).operands.a = 0x80000000
      ∧ statusWord (busWrite 0x62 4000 ready).status = 0 := by decide

/-- V20, row 16: the LO word is at the lower address. -/
theorem test_word_order : busRead 0x0C (ops (-2289) 0 0 0) = 0xF70F ∧ busRead 0x0D (ops (-2289) 0 0 0) = 0xFFFF := by
  decide

/-! ## Host programs (30_encoding.md R120, R121) -/

theorem test_lda_expands :
    Stmt.events (.lda (-2289)) = [.busWrite 0x0C 0xF70F, .busWrite 0x0D 0xFFFF]
      ∧ Stmt.events (.op .mafUpdate (some .acavg)) = [.command 0x2010] := by decide

/-! ## Commands, one step each -/

/-- V30-2, rows 4 and 10. -/
theorem test_nop : exec .nop armed = .next armed := by rfl

/-- V40. -/
theorem test_sat16 : res .sat16 (ops (-40000) 0 0 0) = -32768 ∧ res .sat16 (ops 12345 0 0 0) = 12345 := by decide
theorem test_clamp : res .clamp (ops 1 5 3 0) = 5 ∧ res .clamp (ops (-5) 0 3 0) = 0 := by decide
theorem test_mulq : res .mulq (ops (-3) 16384 0 0) = -2 ∧ res .mulq (ops (-32768) (-32768) 0 0) = 32767 := by decide
theorem test_mulshr :
    res .mulshr (ops (-20000) 30000 18 0) = -2289 ∧ res .mulshr (ops 2147483647 2147483647 0 0) = 1
      ∧ res .mulshr (ops 5 7 64 0) = 35 := by decide
theorem test_divq : res .divq (ops (-1) 3 0 0) = -10922 ∧ res .divq (ops 5 0 0 99) = 99 := by decide
theorem test_divt :
    res .divt (ops (-2147483648) (-1) 0 0) = -2147483648 ∧ res .divt (ops (-7) 2 0 0) = -3
      ∧ res .divt (ops 5 0 0 42) = 42 := by decide
theorem test_acc : res .acc (ops 2147483647 1 0 0) = -2147483648 := by decide
theorem test_shra : res .shra (ops (-2147483648) 0 33 0) = -1073741824 ∧ res .shra (ops (-5) 0 1 0) = -3 := by decide
theorem test_rect : res .rect (ops (-32768) 32767 0 0) = 65535 ∧ res .rect (ops 0x1FFFF 0 0 0) = 1 := by decide

/-- 41_estimators.md R171, corner case 2: samples -5 and -6 with N = 2. -/
theorem test_maf_update_dcavg :
    let t := after .mafUpdateDcavg (withA (-6) { ready with dcavg := { sum := BitVec.ofInt 32 (-5), cnt := 1, out := 0 } })
    t.dcavg.out.toInt = -5 ∧ t.dcavg.sum = 0 ∧ t.dcavg.cnt = 0 ∧ t.status.dcrdy = true := by decide
theorem test_maf_update_acavg :
    let t := after .mafUpdateAcavg (withA 10 ready)
    t.acavg.sum.toInt = 10 ∧ t.acavg.cnt = 1 ∧ t.acavg.out = 0 ∧ t.status.acrdy = false := by decide
/-- 41_estimators.md R172, the example. -/
theorem test_maf_reset_dcavg :
    let t := after .mafResetDcavg { ready with
      dcavg := { sum := 60, cnt := 3, out := 25 }, status := { ready.status with dcrdy := true } }
    t.dcavg = { sum := 0, cnt := 0, out := 0 } ∧ t.status.dcrdy = false := by decide
theorem test_maf_reset_acavg :
    let t := after .mafResetAcavg { ready with
      acavg := { sum := 60, cnt := 3, out := 25 }, dcavg := { sum := 1, cnt := 1, out := 1 } }
    t.acavg.sum = 0 ∧ t.acavg.cnt = 0 ∧ t.acavg.out = 0 ∧ t.dcavg.sum = 1 := by decide
/-- V41-3, row 1, the second sample. -/
theorem test_rms_update :
    let t := after .rmsUpdate (withA 4000 { ready with rms := { sum := 1953, cnt := 1, out := 0, peak := 8000 } })
    t.rms.out = 1220 ∧ t.rms.sum = 0 ∧ t.rms.peak = 8000 ∧ t.status.rmsrdy = true := by decide
theorem test_rms_reset :
    let t := after .rmsReset { ready with rms := { sum := 5, cnt := 1, out := 9, peak := 8000 } }
    t.rms = { sum := 0, cnt := 0, out := 0, peak := 0 } := by decide
/-- V42-1, step 3. -/
theorem test_pi_update_piv :
    let t := after .piUpdatePiv (withA (-32768) { ready with piv := { ready.piv with integ := 200, out := 250 } })
    t.piv.err.toInt = -32768 ∧ t.piv.integ = 0 ∧ t.piv.out = 0 := by decide
/-- 42_pi.md R210, row 2. -/
theorem test_pi_update_pic :
    let t := after .piUpdatePic (withA 100 { ready with pic := { ready.pic with integ := 100 } })
    t.pic.err = 100 ∧ t.pic.integ = 200 ∧ t.pic.out = 250 := by decide
theorem test_pi_reset_piv :
    let t := after .piResetPiv { ready with piv := { ref := 1, err := 100, integ := 200, out := 250 } }
    t.piv = { ref := 1, err := 100, integ := 0, out := 250 } := by decide
/-- 42_pi.md R205, the example. -/
theorem test_pi_reset_pic :
    let t := after .piResetPic { ready with pic := { ready.pic with integ := 123456, out := 7 } }
    t.pic.integ = 0 ∧ t.pic.out = 7 := by decide
/-- 43_control.md R243, rows 1 and 3. -/
theorem test_softstart :
    let s := { ready with
      cfg := { k1 with vrefFinal := 105, ssStep := 10, ssPeriod := 3 }, piv := { ready.piv with ref := 100 } }
    (after .softstart s).piv.ref = 105 ∧ (after .softstart s).scal.ssCnt = 3 := by decide
/-- 43_control.md R232, the example, third call. -/
theorem test_vloop :
    let t := after .vloop { ready with
      cfg := { k1 with vlDiv := 2, piv := { kp := 0, kps := 0, ki := 1000, kis := 0, min := 0x8000, max := 32767 } }
      scal := { ready.scal with vlCnt := 2 }, piv := { ready.piv with ref := 1000 }
      dcavg := { ready.dcavg with out := 200 } }
    t.scal.vlCnt = 0 ∧ t.piv.err = 800 ∧ t.piv.integ = 32767 ∧ t.piv.out = 32767 := by decide
/-- 43_control.md R233, the example: 701 halves the gain. -/
theorem test_vloop_gain :
    let s := { ready with
      cfg := { k1 with piv := { kp := 0, kps := 0, ki := 1001, kis := 10, min := 0, max := 32767 } } }
    (after .vloop { s with piv := { s.piv with ref := 700 } }).piv.out = 684
      ∧ (after .vloop { s with piv := { s.piv with ref := 701 } }).piv.out = 342 := by decide
/-- 43_control.md R234, the example. -/
theorem test_iref_balanced :
    (after .iref { ready with
      ctrl := { ready.ctrl with pbalEn := true }, piv := { ready.piv with out := 16384 }
      snap := { ready.snap with rect := 20000 }, rms := { ready.rms with out := 100 } }).scal.iref = 12 := by decide
/-- 43_control.md R243, the rows with PBAL 0. -/
theorem test_iref_plain :
    (after .iref { ready with
      piv := { ready.piv with out := 16384 }, snap := { ready.snap with rect := 20000 } }).scal.iref = 10000
      ∧ (after .iref { ready with
        piv := { ready.piv with out := 32767 }, snap := { ready.snap with rect := 65535 } }).scal.iref = 32735 := by
  decide
/-- 43_control.md R243: VDC 1, RECT 65535, and VDC 0. -/
theorem test_boostd :
    (after .boostd { ready with snap := { ready.snap with vdc := 1, rect := 65535 } }).scal.boostd.toInt = -32768
      ∧ (after .boostd { ready with
        snap := { ready.snap with rect := 100 }, scal := { ready.scal with boostd := 7 } }).scal.boostd = 7 := by decide
theorem test_boostd_ratio :
    (after .boostd { ready with snap := { ready.snap with vdc := 16000, rect := 4000 } }).scal.boostd = 24576 := by decide
/-- V43-1, rows 1 and 2. -/
theorem test_icorr :
    (after .icorr { ready with snap := { ready.snap with il := 1000, ilOffset := 300 } }).snap.il = 700
      ∧ (after .icorr { ready with
        snap := { ready.snap with il := BitVec.ofInt 16 (-32000), ilOffset := 1000 } }).snap.il.toInt = -32768 := by
  decide
/-- V43-1, row 5: the pinned duty forces the integrator. -/
theorem test_iloop_windup :
    let t := after .iloop { ready with
      snap := { ready.snap with il := 1 }, scal := { ready.scal with iref := 32735 }
      piv := { ready.piv with out := 1000 }, pic := { ready.pic with integ := 32000 } }
    t.pic.err = 32734 ∧ t.pic.out = 32767 ∧ t.duty = 3800 ∧ t.pic.integ = 30000 := by decide
/-- 43_control.md R243: DCM 1, BOOSTD 16384, PIC_OUT 8192. -/
theorem test_iloop_dcm :
    let t := after .iloop { ready with
      ctrl := { ready.ctrl with dcmEn := true }, snap := { ready.snap with il := 2000 }
      scal := { ready.scal with iref := 3000, boostd := 16384 }
      piv := { ready.piv with out := 1000 }, pic := { ready.pic with out := 8192 } }
    t.scal.iavg = 1000 ∧ t.pic.err = 2000 ∧ t.pic.out = 3000 ∧ t.duty = 366 := by decide
/-- 44_fault.md R276, the OR rows with FAULT 0. -/
theorem test_fault_trip :
    (after .faultTrip { ready with dcavg := { ready.dcavg with out := 30000 } }).fault = 0x0003
      ∧ (after .faultTrip { ready with rms := { ready.rms with out := 20000 } }).fault = 0x0004 := by decide
/-- Table V44, rows 1 and 2: ADD carries, and wraps. -/
theorem test_fault_trip_add :
    let s := { ready with
      params := { ready.params with faultSetMode := .add }, dcavg := { ready.dcavg with out := 30000 }
      rms := { ready.rms with out := 5000 } }
    (after .faultTrip { s with fault := 1 }).fault = 2 ∧ (after .faultTrip { s with fault := 0xFFFF }).fault = 0 := by
  decide
/-- 44_fault.md R276: 1500 keeps IN_UV, 1501 clears it. -/
theorem test_fault_recover :
    (after .faultRecover { ready with fault := 2, rms := { ready.rms with out := 1500 } }).fault = 2
      ∧ (after .faultRecover { ready with fault := 2, rms := { ready.rms with out := 1501 } }).fault = 0
      ∧ (after .faultRecover { ready with fault := 8, rms := { ready.rms with out := 5000 } }).fault = 8 := by decide
/-- Vector V41-4. -/
theorem test_estim :
    let t := after .estim { ready with snap := { ready.snap with vdc := 16000, vac := 300 } }
    t.dcavg.sum = 16000 ∧ t.acavg.cnt = 1 ∧ t.snap.rect = 300 ∧ t.rms.sum = 2 ∧ t.rms.peak = 300 := by decide
/-- Vector V41-5: windows of 1, the live offset. -/
theorem test_estim_live_offset :
    let t := after .estim { ready with
      cfg := { k1 with dcavgN := 1, acavgN := 1, rmsN := 1 }, snap := { ready.snap with vdc := 16000, vac := 300 } }
    t.acavg.out = 300 ∧ t.snap.vacOffset = 300 ∧ t.snap.rect = 0 ∧ t.status.rmsrdy = true := by decide
/-- V30-2: INIT on the power-on configuration fails its check; on K1 it passes and clears ILLEGAL. -/
theorem test_init :
    statusWord (after .init State.reset).status = 0x0200
      ∧ statusWord (after .init { State.reset with
        cfg := k1, status := { State.reset.status with illegal := true } }).status = 0x0100
      ∧ (after .init { State.reset with cfg := k1 }).calls = [.disableOutputs] := by decide
/-- Vector V45-2: the INIT-state tick. -/
theorem test_tick_init :
    let t := after .tick { ready with samples := { vdc := 16000, vac := BitVec.ofInt 16 (-8000), il := 2000 } }
    statusWord t.status = 0x0101 ∧ t.calls = [.disableOutputs, .calStart] ∧ t.snap.rect = 8000 ∧ t.fault = 2
      ∧ t.scal.ssCnt = 2 ∧ t.snap.il = 2000 := by decide
/-- Vector V45-4: 1501 clears the bit and returns to CTRL_RUN with the reference reseeded. -/
theorem test_tick_fault_return :
    let t := after .tick { inPhase 4 with
      fault := 2, rms := { ready.rms with out := 1501 }, dcavg := { ready.dcavg with out := 16000 }
      piv := { ready.piv with integ := 7 }, duty := 9 }
    t.status.state = 3 ∧ t.fault = 0 ∧ t.piv.ref = 16000 ∧ t.piv.integ = 0 ∧ t.duty = 0
      ∧ t.calls = [.disableOutputs, .enableOutputs] := by decide

/-! ## Witnesses: for every statement with hypotheses, a state that meets them, clause by clause -/

theorem exec_answers (i : Instr) (s : State) : exec i s = .next (after i s) := by
  obtain ⟨t, h⟩ := exec_isNext i s
  simp only [after, h, go]

theorem step_answers (s : State) (e : PortEvent) (rest : List PortEvent) (h : s.port = e :: rest) :
    step s = .next (go (step s)) := by
  simp only [step, portStep, h]
  cases e with
  | command w => simp only [portEvent, portCommand]; split; · exact exec_answers ..
                 · rfl
  | busRead a => rfl
  | busWrite a v => rfl
  | trig => simp only [portEvent, portTrig]; split; · exact exec_answers ..
            · rfl
  | telemetryRead a o => cases o <;> rfl

theorem witness_illegal_word :
    ({ ready with port := [.command 0x0053, .trig] } : State).port = .command 0x0053 :: [.trig]
      ∧ ∀ i, decode 0x0053 ≠ .ok i :=
  ⟨rfl, fun _ h => nomatch (show decode 0x0053 = .error .unlistedOp by decide).symm.trans h⟩

theorem witness_legal_word :
    ({ ready with port := [.command 0x2010] } : State).port = .command 0x2010 :: []
      ∧ decode 0x2010 = .ok .mafUpdateAcavg := by decide

/-- For StepTakesTheFirstPortEvent and TelemetryReadsAreExactOutsideTicks, one state per clause. -/
theorem witness_port_events :
    State.reset.port = []
      ∧ ({ ready with port := [.busRead 0x7F] } : State).port = .busRead 0x7F :: []
      ∧ ({ ready with port := [.busWrite 0x00 0xFFFF, .trig] } : State).port = .busWrite 0x00 0xFFFF :: [.trig]
      ∧ ({ ready with port := [.telemetryRead 0x01 true] } : State).port = .telemetryRead 0x01 true :: []
      ∧ ({ ready with port := [.telemetryRead 0x01 false] } : State).port = .telemetryRead 0x01 false :: [] := by decide

theorem witness_trigger_enabled :
    ({ armed with port := [.trig] } : State).port = .trig :: [] ∧ armed.ctrl.trigen = true := by decide
theorem witness_trigger_masked :
    ({ ready with port := [.trig] } : State).port = .trig :: [] ∧ ready.ctrl.trigen = false := by decide

/-- A failed gate of each kind that can fail. -/
theorem witness_failed_gates :
    gateCondition (gateOf .sat16) armed.ctrl.trigen armed.status.configured = false
      ∧ gateCondition (gateOf .estim) armed.ctrl.trigen armed.status.configured = false
      ∧ gateCondition (gateOf .iloop) State.reset.ctrl.trigen State.reset.status.configured = false
      ∧ gateCondition (gateOf .init) armed.ctrl.trigen armed.status.configured = false
      ∧ gateCondition (gateOf .tick) State.reset.ctrl.trigen State.reset.status.configured = false := by decide

/-- The ends of the reserved ranges of 30_encoding.md R117. -/
theorem witness_reserved_ops :
    ∀ w ∈ ([0x09, 0x0F, 0x15, 0x1F, 0x22, 0x2F, 0x36, 0x3F, 0x42, 0x4F, 0x53, 0xFF, 0x1009] : List W16),
      (0x09 ≤ w.toNat % 256 ∧ w.toNat % 256 ≤ 0x0F) ∨ (0x15 ≤ w.toNat % 256 ∧ w.toNat % 256 ≤ 0x1F)
        ∨ (0x22 ≤ w.toNat % 256 ∧ w.toNat % 256 ≤ 0x2F) ∨ (0x36 ≤ w.toNat % 256 ∧ w.toNat % 256 ≤ 0x3F)
        ∨ (0x42 ≤ w.toNat % 256 ∧ w.toNat % 256 ≤ 0x4F) ∨ 0x53 ≤ w.toNat % 256 := by
  intro w h
  simp only [List.mem_cons, List.not_mem_nil, or_false] at h
  rcases h with rfl | rfl | rfl | rfl | rfl | rfl | rfl | rfl | rfl | rfl | rfl | rfl | rfl <;> decide

/-- For the primitives: TRIGEN at both values, and a divisor of 0 in bits 15:0 alone, in all bits, and not 0. -/
theorem witness_primitives :
    State.reset.ctrl.trigen = false ∧ armed.ctrl.trigen = true
      ∧ low16Signed (ops 5 0x10000 0 0).operands.b = 0 ∧ (ops 5 0x10000 0 0).operands.b.toInt ≠ 0
      ∧ (ops 5 0 0 0).operands.b.toInt = 0 ∧ low16Signed (ops 5 (-1) 0 0).operands.b ≠ 0 := by decide

/-- For the statements on commands under gate G2: a checked configuration with the gate holding, and failing twice. -/
theorem witness_debug_commands :
    (ready.configChecked ∧ ready.debugReady) ∧ (armed.configChecked ∧ ¬ armed.debugReady)
      ∧ (State.reset.configChecked ∧ ¬ State.reset.debugReady) := by decide

/-- For the window laws: a window of 1, and of 65535. -/
theorem witness_windows :
    let one : State := { ready with cfg := { k1 with dcavgN := 1, acavgN := 1, rmsN := 1 } }
    let most : State := { ready with cfg := { k1 with dcavgN := 65535, acavgN := 65535, rmsN := 65535 } }
    (one.debugReady ∧ 1 ≤ (one.mafN .dcavg).toNat ∧ 1 ≤ (one.mafN .acavg).toNat ∧ 1 ≤ one.cfg.rmsN.toNat)
      ∧ (most.debugReady ∧ 1 ≤ (most.mafN .dcavg).toNat ∧ 1 ≤ (most.mafN .acavg).toNat ∧ 1 ≤ most.cfg.rmsN.toNat) := by
  decide

theorem witness_pi_default : ready.params.piUpdate = .default ∧ ready.debugReady ∧ ¬ armed.debugReady := by decide

/-- For PiUpdateObeysTheLaws: clamps in order, equal, and inverted, the default algorithm and another. -/
theorem witness_pi_laws :
    let other : State := { ready with params := { ready.params with piUpdate := .anyLawful } }
    let point : State := { ready with cfg := { k1 with piv := { k1Pi with min := 7, max := 7 } } }
    let inverted : State := { ready with cfg := { k1 with piv := { k1Pi with min := 1, max := 0 } } }
    (ready.debugReady ∧ ready.params.piUpdate = .default ∧ (ready.piCfg .piv).min.toInt ≤ (ready.piCfg .piv).max.toInt)
      ∧ (other.debugReady ∧ (other.piCfg .pic).min.toInt ≤ (other.piCfg .pic).max.toInt)
      ∧ (point.debugReady ∧ (point.piCfg .piv).min.toInt ≤ (point.piCfg .piv).max.toInt)
      ∧ (inverted.debugReady ∧ inverted.params.piUpdate = .default
        ∧ (inverted.piCfg .piv).max.toInt < (inverted.piCfg .piv).min.toInt) := by decide

/-- For its last clause: two updates, of the two units, that agree on everything the algorithm may read. -/
theorem witness_pi_agreement :
    let s := withA 100 ready
    let r := withA 0x10064 { ready with pic := { ready.pic with out := 9, err := 3 }, duty := 5 }
    s.debugReady ∧ r.debugReady ∧ r.params.piUpdate = s.params.piUpdate ∧ (r.pi .pic).integ = (s.pi .piv).integ
      ∧ low16Signed r.operands.a = low16Signed s.operands.a ∧ r.piCfg .pic = s.piCfg .piv := by decide

/-- For the agreement clause of the PI rule, as VLOOP uses it: KI 1001 halved to 500 at e = 701, against a PI_UPDATE.PIC
whose own gain is 500. -/
theorem witness_pi_command_agreement :
    let c : PiCfg := { k1Pi with ki := 1001 }
    let r : State := withA 701 { ready with
      cfg := { k1 with pic := { k1Pi with ki := 500 } }, params := { ready.params with piUpdate := .anyLawful } }
    r.debugReady ∧ r.params.piUpdate = .anyLawful ∧ (r.pi .pic).integ = PiUnit.zero.integ
      ∧ low16Signed r.operands.a = 701 ∧ (r.piCfg .pic).ki.toInt = 1001 / 2
      ∧ r.piCfg .pic = { c with ki := (r.piCfg .pic).ki } := by decide

/-- For IntegratorsChangeOnlyAtTheListedPoints: a command that changes each integrator. -/
theorem witness_integrators :
    (exec .piUpdatePiv (withA 100 ready) = .next (after .piUpdatePiv (withA 100 ready))
        ∧ (after .piUpdatePiv (withA 100 ready)).piv.integ ≠ (withA 100 ready).piv.integ)
      ∧ (exec .piUpdatePic (withA 100 ready) = .next (after .piUpdatePic (withA 100 ready))
        ∧ (after .piUpdatePic (withA 100 ready)).pic.integ ≠ (withA 100 ready).pic.integ) :=
  ⟨⟨exec_answers .., by decide⟩, exec_answers .., by decide⟩

/-- For SoftstartStepsTheRamp: a reference below and at the setpoint. -/
theorem witness_softstart :
    let top : State := { ready with piv := { ready.piv with ref := 16400 } }
    (ready.configChecked ∧ ready.debugReady ∧ ready.piv.ref.toInt ≤ ready.cfg.vrefFinal.toInt)
      ∧ (top.configChecked ∧ top.debugReady ∧ top.piv.ref.toInt ≤ top.cfg.vrefFinal.toInt) := by decide

/-- For FaultTickDecidesBitsByHysteresis: ordered limits, and limits that are equal. -/
theorem witness_hysteresis :
    let flat : State := { inPhase 4 with
      cfg := { k1 with acUvRec := k1.acUvLim, acOvRec := k1.acOvLim, dcOvRec := k1.dcOvLim } }
    ((inPhase 4).tickReady 4 ∧ (inPhase 4).params.faultSetMode = .or
        ∧ (inPhase 4).cfg.acUvLim.toInt ≤ (inPhase 4).cfg.acUvRec.toInt
        ∧ (inPhase 4).cfg.acOvRec.toInt ≤ (inPhase 4).cfg.acOvLim.toInt
        ∧ (inPhase 4).cfg.dcOvRec.toInt ≤ (inPhase 4).cfg.dcOvLim.toInt)
      ∧ (flat.tickReady 4 ∧ flat.params.faultSetMode = .or ∧ flat.cfg.acUvLim.toInt ≤ flat.cfg.acUvRec.toInt
        ∧ flat.cfg.acOvRec.toInt ≤ flat.cfg.acOvLim.toInt ∧ flat.cfg.dcOvRec.toInt ≤ flat.cfg.dcOvLim.toInt) := by decide

/-- The legal ranges hold of K1 and fail on the power-on configuration. -/
theorem witness_legal_ranges : LegalRanges k1 ∧ ¬ LegalRanges Cfg.zero := by
  unfold LegalRanges; decide

/-- For InitChecksAndResets: its three clauses. -/
theorem witness_init :
    armed.ctrl.trigen = true ∧ (State.reset.ctrl.trigen = false ∧ ¬ LegalRanges State.reset.cfg)
      ∧ (ready.ctrl.trigen = false ∧ LegalRanges ready.cfg) := by
  unfold LegalRanges; decide

theorem witness_unreachable_state :
    (∀ k ∈ ([5, 6, 7] : List (BitVec 3)), (inPhase k).status.configured = true ∧ 4 < (inPhase k).status.state.toNat) := by
  decide

/-- For the five TICK statements. -/
theorem witness_ticks :
    (inPhase 0).tickReady 0 ∧ (inPhase 1).tickReady 1 ∧ (inPhase 2).tickReady 2 ∧ (inPhase 3).tickReady 3
      ∧ (inPhase 4).tickReady 4 := by decide

/-- For CtrlRunTickControlsOrEntersFault: a tick that keeps running and one that enters FAULT. -/
theorem witness_ctrl_run :
    let good : State := { inPhase 3 with rms := { ready.rms with out := 5000 } }
    (good.tickReady 3 ∧ (after .tick good).status.state = 3)
      ∧ ((inPhase 3).tickReady 3 ∧ (after .tick (inPhase 3)).status.state = 4) := by decide +kernel

/-- OFFSET_MEAS with an answer waiting. -/
def measuring : State := { inPhase 1 with calAnswers := [{ ready := true, offset := 5 }] }

/-- For StateMovesOnlyByTheTransitionRelation: a tick from each state. -/
theorem witness_transitions :
    ((inPhase 0).status.configured = true ∧ exec .tick (inPhase 0) = .next (after .tick (inPhase 0)))
      ∧ (measuring.status.configured = true ∧ exec .tick measuring = .next (after .tick measuring))
      ∧ ((inPhase 2).status.configured = true ∧ exec .tick (inPhase 2) = .next (after .tick (inPhase 2)))
      ∧ ((inPhase 3).status.configured = true ∧ exec .tick (inPhase 3) = .next (after .tick (inPhase 3)))
      ∧ ((inPhase 4).status.configured = true ∧ exec .tick (inPhase 4) = .next (after .tick (inPhase 4))) :=
  ⟨⟨rfl, exec_answers ..⟩, ⟨rfl, exec_answers ..⟩, ⟨rfl, exec_answers ..⟩, ⟨rfl, exec_answers ..⟩, rfl, exec_answers ..⟩

/-- The same: an INIT that passes, and a refused TICK, a refused INIT and a NOP, which keep the state. -/
theorem witness_kept_state :
    ((inPhase 3).ctrl.trigen = false ∧ LegalRanges (inPhase 3).cfg
        ∧ exec .init (inPhase 3) = .next (after .init (inPhase 3)))
      ∧ (State.reset.status.configured = false ∧ exec .tick State.reset = .next (after .tick State.reset))
      ∧ (armed.ctrl.trigen = true ∧ exec .init armed = .next (after .init armed))
      ∧ exec .nop ready = .next (after .nop ready) :=
  ⟨⟨rfl, witness_legal_ranges.1, exec_answers ..⟩, ⟨rfl, exec_answers ..⟩, ⟨rfl, exec_answers ..⟩, exec_answers ..⟩

/-- For DutyIsZeroOrWithinItsLimits: each state, with a duty where one may stand. -/
theorem witness_duty :
    (∀ k ∈ ([0, 1, 2, 3, 4] : List (BitVec 3)), (inPhase k).status.configured = true ∧ (inPhase k).cfg.legal = true
        ∧ (inPhase k).phaseLegal
        ∧ ((inPhase k).status.state.toNat = 1 ∨ (inPhase k).status.state.toNat = 2 → (inPhase k).duty = 0))
      ∧ (let s : State := { inPhase 3 with
            duty := 100, rms := { ready.rms with out := 5000 }, piv := { ready.piv with ref := 16000 } }
        (s.status.configured = true ∧ s.cfg.legal = true ∧ s.phaseLegal)
          ∧ (after .tick s).fault = 0 ∧ ¬ (after .tick s).piv.out.toInt < s.cfg.voutMinpk.toInt) := by decide +kernel

/-- The ends of the ranges of each class (10_state.md R51). -/
theorem witness_classes :
    (∀ a ∈ [0x08, 0x0A], classByMap a = .i) ∧ classByMap 0x01 = .s ∧ classByMap 0x00 = .k
      ∧ (∀ a ∈ [0x04, 0x07, 0x0B, 0x14, 0x17, 0x1E, 0x1F, 0x2D, 0x2F, 0x35, 0x37, 0x3D, 0x3F, 0x45, 0x4F, 0x5F, 0x65, 0x72,
          0x7F], classByMap a = .r)
      ∧ (∀ a ∈ [0x02, 0x03, 0x0C, 0x13, 0x18, 0x1D, 0x20, 0x2C, 0x30, 0x34, 0x38, 0x3C, 0x40, 0x44], classByMap a = .d)
      ∧ (∀ a ∈ [0x50, 0x5E, 0x60, 0x64, 0x66, 0x71], classByMap a = .c)
      ∧ ready.ctrl.trigen = false ∧ armed.ctrl.trigen = true := by decide

/-- For CtrlWriteGatesTheOptions: the same options (bits 15:4 set), others while enabled, others while masked. -/
theorem witness_ctrl_write :
    ((0xFFF3 : W16).getLsbD 1 = ready.ctrl.ocorrEn ∧ (0xFFF3 : W16).getLsbD 2 = ready.ctrl.pbalEn
        ∧ (0xFFF3 : W16).getLsbD 3 = ready.ctrl.dcmEn)
      ∧ ((0x0005 : W16).getLsbD 1 ≠ armed.ctrl.ocorrEn ∧ armed.ctrl.trigen = true)
      ∧ ((0x0004 : W16).getLsbD 1 ≠ ready.ctrl.ocorrEn ∧ ready.ctrl.trigen = false) := by decide

/-- Running without a fault, a TICK at the port. -/
def running : State :=
  { inPhase 3 with port := [.command 0x0052], rms := { ready.rms with out := 5000 }, duty := 3800 }

/-- For the invariants: a configured state that meets them and takes a TICK, and an INIT that sets them. -/
theorem witness_invariants :
    (step running = .next (go (step running)) ∧ running.configChecked ∧ running.phaseLegal ∧ running.runInvariant)
      ∧ (running.ctrl.trigen = false ∧ ∀ e ∈ running.port.head?, e.isDebugWrite = false)
      ∧ (ready.ctrl.trigen = false ∧ ready.cfg.legal = true ∧ exec .init ready = .next (after .init ready)) :=
  ⟨⟨step_answers _ _ _ rfl, by decide, by decide, by decide⟩, by decide, rfl, by decide, exec_answers ..⟩

/-- The same with the trigger enabled: a debug write, which is refused. -/
theorem witness_refused_debug_write :
    let s : State := { armed with port := [.busWrite 0x03 9] }
    (PortEvent.busWrite 0x03 9).isDebugWrite = true ∧ s.ctrl.trigen = true ∧ s.runInvariant
      ∧ step s = .next (go (step s)) :=
  ⟨by decide, rfl, by decide, step_answers _ _ _ rfl⟩

/-- An output enabled, its call recorded, and the FAULT state's tick at the port. -/
def enabled : State :=
  { inPhase 4 with
    port := [.command 0x0052], calls := [.disableOutputs, .enableOutputs]
    status := { (inPhase 4).status with outen := true } }

theorem witness_outen : enabled.outenMirrors ∧ step enabled = .next (go (step enabled)) := ⟨by decide, step_answers _ _ _ rfl⟩

def marked : State := { ready with port := [.command 0x0051], status := { ready.status with illegal := true } }

theorem witness_illegal_cleared :
    step marked = .next (go (step marked)) ∧ marked.status.illegal = true ∧ (go (step marked)).status.illegal = false :=
  ⟨step_answers _ _ _ rfl, rfl, by decide⟩

/-- A configuration write while the trigger is enabled. -/
def writing : State := { armed with port := [.busWrite 0x62 1] }

theorem witness_enabled_step : step writing = .next (go (step writing)) ∧ writing.ctrl.trigen = true :=
  ⟨step_answers _ _ _ rfl, rfl⟩

/-- For CommandsCompleteAndWriteOnlyTheirRegisters: an address outside the write set, and a command that is neither
INIT nor TICK. -/
theorem witness_write_sets :
    (0x00 : Addr).toNat ∉ writeSet .tick ∧ (0x71 : Addr).toNat ∉ writeSet .init ∧ (0x0C : Addr).toNat ∉ writeSet .mulq
      ∧ (Instr.iloop ≠ .init ∧ Instr.iloop ≠ .tick) := by decide

end Sys2Proof.Tests
end

section
/-!
PROOFS. What one step can do, said once: a gated command, an event of the port (20_memory.md R90, 30_encoding.md R116).
-/
namespace Sys2Proof.Machine

/-- A property of the state a gated command answers: it holds of the refusal, and of the effect where the gate holds. -/
theorem gated_elim {P : State → Prop} {g : Gate} {f : State → State} {s t : State} (ht : gated g f s = .next t)
    (refused : P s.raiseIllegal) (run : g.holds s = true → P (f s)) : P t := by
  obtain ⟨hg, rfl⟩ | ⟨-, rfl⟩ := (gated_next g f s t).mp ht
  · exact run hg
  · exact refused

/-- Gate G2 lets a command run only while CONFIGURED is 1. -/
theorem Gate.g2_configured {s : State} (h : Gate.g2.holds s = true) : s.status.configured = true := by
  simp only [Gate.holds, Bool.and_eq_true] at h
  exact h.2

/-- Every outcome of NOP or a primitive: nothing changes, or it is refused, or RES takes a value (40_fixed_point.md
R140, 41_estimators.md R179). -/
theorem exec_primitive {i : Instr} {s t : State} (hi : gateOf i = .g0 ∨ gateOf i = .g1) (ht : exec i s = .next t) :
    t = s ∨ t = s.raiseIllegal ∨ ∃ v, t = s.setRes v := by
  cases i <;> simp only [gateOf, reduceCtorEq, or_self] at hi
  all_goals
    simp only [exec, execNop, execSat16, execClamp, execMulq, execMulshr, execDivq, execDivt, execAcc, execShra,
      execRect] at ht
    refine gated_elim (P := fun t => t = s ∨ t = s.raiseIllegal ∨ ∃ v, t = s.setRes v) ht (.inr (.inl rfl)) fun _ => ?_
  case nop => exact .inl rfl
  case divq | divt =>
    split_ifs
    · exact .inr (.inr ⟨_, rfl⟩)
    · exact .inl rfl
  all_goals exact .inr (.inr ⟨_, rfl⟩)

/-- Every outcome of a step: idle; else, with the event taken, a command, a bus write, a refused word, or a read or a
lost trigger, which change no register. -/
theorem step_cases {s t : State} (h : step s = .next t) :
    t = s ∨ ∃ e rest, s.port = e :: rest ∧
      ((∃ i, exec i { s with port := rest } = .next t)
        ∨ (∃ a v, e = .busWrite a v ∧ t = busWrite a v { s with port := rest })
        ∨ t = ({ s with port := rest } : State).raiseIllegal
        ∨ ∃ torn host telemetry, t = { s with
            port := rest, tornDraws := torn, hostReads := host, telemetryReads := telemetry }) := by
  unfold step portStep at h
  split at h
  · exact .inl (Host.Outcome.next.inj h).symm
  · rename_i e rest hport
    refine .inr ⟨e, rest, hport, ?_⟩
    cases e with
    | command w =>
      simp only [portEvent, portCommand] at h
      split at h
      · exact .inl ⟨_, h⟩
      · exact .inr (.inr (.inl (Host.Outcome.next.inj h).symm))
    | busRead a => exact .inr (.inr (.inr ⟨_, _, _, (Host.Outcome.next.inj h).symm⟩))
    | busWrite a v => exact .inr (.inl ⟨a, v, rfl, (Host.Outcome.next.inj h).symm⟩)
    | trig =>
      simp only [portEvent, portTrig] at h
      split at h
      · exact .inl ⟨_, h⟩
      · exact .inr (.inr (.inr ⟨_, _, _, (Host.Outcome.next.inj h).symm⟩))
    | telemetryRead a overlapsTick =>
      simp only [portEvent, portTelemetryRead] at h
      split at h <;> exact .inr (.inr (.inr ⟨_, _, _, (Host.Outcome.next.inj h).symm⟩))

end Sys2Proof.Machine
end

section
/-!
PROOFS. The bounds of 10_state.md R49: each shared operation keeps them while the configuration is a legal one.
-/
namespace Sys2Proof.Machine

/-- What `runInvariant` says of a configured state. -/
abbrev State.running (s : State) : Prop := s.cfg.legal = true ∧ s.bounded

/-! ## One unit -/

/-- A sample into a moving-average unit: the count stays below the window and the sum never wraps (41_estimators.md
R173). -/
theorem MafRule.bounded {n : W16} {x : Int} {m m' : MafUnit} {rdy rdy' : Bool} (h : MafRule n x m m' rdy rdy')
    (hn : n ≠ 0) (hx : -32768 ≤ x ∧ x ≤ 32767) (hm : m.bounded n) : m'.bounded n := by
  have hpos : 0 < n.toNat := Nat.pos_of_ne_zero fun h0 => hn (BitVec.eq_of_toNat_eq h0)
  have hlt := n.isLt
  obtain ⟨hcnt, hsum⟩ := hm
  unfold MafRule at h
  dsimp only at h
  split_ifs at h with hlast
  · obtain ⟨-, -, hsum', hcnt'⟩ := h
    simp [MafUnit.bounded, hsum', hcnt', hpos]
  · obtain ⟨hsum', hcnt', -, -⟩ := h
    rw [Int.bmod_eq_of_le (by omega) (by omega)] at hsum'
    exact ⟨by omega, by omega⟩

theorem squaredTerm_range (shift : Nat) (x : Int) : 0 ≤ squaredTerm shift x ∧ squaredTerm shift x ≤ 32767 := by
  have h : 0 ≤ x * x / 2 ^ shift := Int.ediv_nonneg (mul_self_nonneg x) (by positivity)
  simp only [squaredTerm]
  omega

/-- The mean of at most n terms of 0 to 32767 is an int16 that is not negative. -/
theorem mean_bmod_nonneg {sum : Int} {n : Nat} (hn : 0 < n) (h0 : 0 ≤ sum) (h1 : sum ≤ n * 32767) :
    0 ≤ (sum.tdiv n).bmod 65536 := by
  have hlo : 0 ≤ sum.tdiv n := Int.tdiv_nonneg h0 (by omega)
  have hhi : sum.tdiv n ≤ 32767 := by
    rw [Int.tdiv_eq_ediv_of_nonneg h0]
    exact Int.ediv_le_of_le_mul (by omega) (by omega)
  rw [Int.bmod_eq_of_le (by omega) (by omega)]
  exact hlo

/-- A magnitude into the RMS unit: the count stays below the window, the sum never wraps, and the mean fits RMS_OUT
(41_estimators.md R178). -/
theorem RmsRule.bounded {n : W16} {shift : Nat} {x : Int} {r r' : RmsUnit} {rdy rdy' : Bool}
    (h : RmsRule n shift x r r' rdy rdy') (hn : n ≠ 0) (hr : r.bounded n) : r'.bounded n := by
  have hpos : 0 < n.toNat := Nat.pos_of_ne_zero fun h0 => hn (BitVec.eq_of_toNat_eq h0)
  have hlt := n.isLt
  have hterm := squaredTerm_range shift x
  obtain ⟨hcnt, hlo, hhi, hout⟩ := hr
  unfold RmsRule at h
  dsimp only at h
  rw [Int.bmod_eq_of_le (n := r.sum.toInt + squaredTerm shift x) (by omega) (by omega)] at h
  obtain ⟨-, h⟩ := h
  split_ifs at h with hlast
  · obtain ⟨hout', -, hsum', hcnt'⟩ := h
    have hmean := mean_bmod_nonneg (sum := r.sum.toInt + squaredTerm shift x) hpos (by omega) (by omega)
    rw [← hout'] at hmean
    simp [RmsUnit.bounded, hsum', hcnt', hpos, hmean]
  · obtain ⟨hsum', hcnt', hout', -⟩ := h
    exact ⟨by omega, by omega, by omega, by rwa [hout']⟩

/-- An update leaves a PI output within its clamps, whichever algorithm it is (42_pi.md R203 law 3, R204). -/
theorem PiRule.bounded {alg : PiAlgorithm} {c : PiCfg} {e ki : Int} {u u' : PiUnit} (h : PiRule alg c e ki u u')
    (hc : c.min.toInt ≤ c.max.toInt) : u'.bounded c := by
  obtain ⟨-, -, h⟩ := h
  cases alg with
  | default =>
    obtain ⟨-, hout⟩ := h
    exact .inr ⟨by omega, by omega⟩
  | anyLawful => exact .inr (h.2 hc)

/-! ## The shared operations -/

theorem mafUpdate_running (u : MafSel) {x : Int} (hx : -32768 ≤ x ∧ x ≤ 32767) {s : State} (h : s.running) :
    (mafUpdate u x s).running := by
  obtain ⟨hl, hdc, hac, hrest⟩ := h
  obtain ⟨hdcN, hacN, -⟩ := Cfg.legal_spec hl
  cases u with
  | dcavg =>
    obtain ⟨m, rdy, hrule, he⟩ := mafUpdate_dcavg_rule x s hdcN
    rw [he]
    exact ⟨hl, hrule.bounded hdcN hx hdc, hac, hrest⟩
  | acavg =>
    obtain ⟨m, rdy, hrule, he⟩ := mafUpdate_acavg_rule x s hacN
    rw [he]
    exact ⟨hl, hdc, hrule.bounded hacN hx hac, hrest⟩

theorem rmsUpdate_running {x : Int} (hx : 0 ≤ x ∧ x ≤ 65535) {s : State} (h : s.running) : (rmsUpdate x s).running := by
  obtain ⟨hl, hdc, hac, hrms, hrest⟩ := h
  obtain ⟨-, -, hrmsN, -⟩ := Cfg.legal_spec hl
  obtain ⟨r, rdy, hrule, he⟩ := rmsUpdate_rule x hx.1 hx.2 s hrmsN
  rw [he]
  exact ⟨hl, hdc, hac, hrule.bounded hrmsN hrms, hrest⟩

/-- The snapshot is under no bound. -/
theorem State.withSnap_running {s : State} (h : s.running) (x : Snapshot) : ({ s with snap := x } : State).running := h

theorem estim_running {s : State} (h : s.running) : (estim s).running := by
  have hdc := mafUpdate_running .dcavg (int16_range s.snap.vdc) h
  have hac := mafUpdate_running .acavg (int16_range (mafUpdate .dcavg (int16 s.snap.vdc) s).snap.vac) hdc
  unfold estim
  dsimp only
  generalize mafUpdate .acavg _ _ = m at hac ⊢
  exact rmsUpdate_running (uint16_range _) (State.withSnap_running hac _)

/-- A reset unit is bounded by any window length that is not 0. -/
theorem MafUnit.bounded_zero {n : W16} (hn : n ≠ 0) : MafUnit.zero.bounded n :=
  ⟨Nat.pos_of_ne_zero fun h0 => hn (BitVec.eq_of_toNat_eq h0), by decide⟩

theorem RmsUnit.bounded_zero {n : W16} (hn : n ≠ 0) : RmsUnit.zero.bounded n :=
  ⟨Nat.pos_of_ne_zero fun h0 => hn (BitVec.eq_of_toNat_eq h0), by decide, by decide, by decide⟩

theorem mafReset_running (u : MafSel) {s : State} (h : s.running) : (mafReset u s).running := by
  obtain ⟨hl, hdc, hac, hrest⟩ := h
  obtain ⟨hdcN, hacN, -⟩ := Cfg.legal_spec hl
  cases u with
  | dcavg => exact ⟨hl, MafUnit.bounded_zero hdcN, hac, hrest⟩
  | acavg => exact ⟨hl, hdc, MafUnit.bounded_zero hacN, hrest⟩

theorem rmsReset_running {s : State} (h : s.running) : (rmsReset s).running := by
  obtain ⟨hl, hdc, hac, -, hrest⟩ := h
  obtain ⟨-, -, hrmsN, -⟩ := Cfg.legal_spec hl
  exact ⟨hl, hdc, hac, RmsUnit.bounded_zero hrmsN, hrest⟩

theorem piUpdate_running (p : PiSel) (e ki : W16) {s : State} (h : s.running) : (piUpdate p e ki s).running := by
  obtain ⟨hl, hdc, hac, hrms, hphase, hiref, hvl, hduty, hpiv, hpic⟩ := h
  obtain ⟨-, -, -, -, -, hpivLim, hpicLim, -⟩ := Cfg.legal_spec hl
  cases p with
  | piv =>
    obtain ⟨u, hrule, he⟩ := piUpdate_piv_rule e ki s
    rw [he]
    exact ⟨hl, hdc, hac, hrms, hphase, hiref, hvl, hduty, hrule.bounded hpivLim, hpic⟩
  | pic =>
    obtain ⟨u, hrule, he⟩ := piUpdate_pic_rule e ki s
    rw [he]
    exact ⟨hl, hdc, hac, hrms, hphase, hiref, hvl, hduty, hpiv, hrule.bounded hpicLim⟩

/-- A PI reset clears the integrator, which is under no bound. -/
theorem piReset_running (p : PiSel) {s : State} (h : s.running) : (piReset p s).running := by
  cases p <;> exact h

theorem softStart_running {s : State} (h : s.running) : (softStart s).running := by
  obtain ⟨-, -, -, hstep, -⟩ := Cfg.legal_spec h.1
  have hrule := softStart_rule s hstep
  unfold SoftStartRule at hrule
  split_ifs at hrule
  · obtain ⟨c, -, he⟩ := hrule
    rw [he]
    exact h
  · obtain ⟨r, -, he⟩ := hrule
    rw [he]
    exact h
  · rw [hrule]
    exact h

theorem vLoop_running {s : State} (h : s.running) : (vLoop s).running := by
  obtain ⟨hl, hdc, hac, hrms, hphase, hiref, hvl, hduty, hpiv, hpic⟩ := h
  obtain ⟨-, -, -, -, -, hpivLim, -⟩ := Cfg.legal_spec hl
  have hrule := vLoop_rule s
  unfold VLoopRule at hrule
  dsimp only at hrule
  by_cases hdue : s.cfg.vlDiv.toNat < (s.scal.vlCnt.toNat + 1) % 65536
  · rw [if_pos hdue] at hrule
    obtain ⟨u, hu, he⟩ := hrule
    rw [he]
    exact ⟨hl, hdc, hac, hrms, hphase, hiref, Nat.zero_le _, hduty, hu.bounded hpivLim, hpic⟩
  · rw [if_neg hdue] at hrule
    obtain ⟨c, hc, he⟩ := hrule
    rw [he]
    exact ⟨hl, hdc, hac, hrms, hphase, hiref, hc ▸ Nat.le_of_not_lt hdue, hduty, hpiv, hpic⟩

theorem iRef_running {s : State} (h : s.running) : (iRef s).running := by
  obtain ⟨hl, hdc, hac, hrms, hphase, -, hrest⟩ := h
  obtain ⟨r, hr, he⟩ := iRef_rule s
  rw [he]
  exact ⟨hl, hdc, hac, hrms, hphase, ⟨by dsimp only; omega, by dsimp only; omega⟩, hrest⟩

theorem boostD_running {s : State} (h : s.running) : (boostD s).running := by
  have hrule := boostD_rule s
  unfold BoostDRule at hrule
  split_ifs at hrule
  · obtain ⟨b, -, he⟩ := hrule
    rw [he]
    exact h
  · rw [hrule]
    exact h

theorem iCorr_running {s : State} (h : s.running) : (iCorr s).running := by
  have hrule := iCorr_rule s
  unfold ICorrRule at hrule
  split_ifs at hrule
  · obtain ⟨i, -, he⟩ := hrule
    rw [he]
    exact h
  · rw [hrule]
    exact h

/-- The duty law: the converted duty is clamped to its limits, and standby makes it 0 (43_control.md R238 to R240). -/
theorem iLoop_running {s : State} (h : s.running) : (iLoop s).running := by
  obtain ⟨hl, hdc, hac, hrms, hphase, hiref, hvl, -, hpiv, -⟩ := h
  obtain ⟨-, -, -, -, hdutyLim, -, hpicLim, -⟩ := Cfg.legal_spec hl
  obtain ⟨il, iavg, duty, u, -, -, hu, hduty, he⟩ := iLoop_rule s
  have hpic := hu.bounded hpicLim
  rw [he]
  split_ifs
  · exact ⟨hl, hdc, hac, hrms, hphase, hiref, hvl, .inl rfl, hpiv, hpic⟩
  all_goals
    exact ⟨hl, hdc, hac, hrms, hphase, hiref, hvl, .inr ⟨by dsimp only; omega, by dsimp only; omega⟩, hpiv, hpic⟩

/-- The fault mask is under no bound. -/
theorem faultTrip_running {s : State} (h : s.running) : (faultTrip s).running := by
  rw [faultTrip_eq]
  exact h

theorem faultRecover_running {s : State} (h : s.running) : (faultRecover s).running := by
  rw [faultRecover_eq]
  exact h

/-! ## The sequencer -/

theorem Phase.code_le_four (p : Phase) : p.code.toNat ≤ 4 := by cases p <;> decide

theorem stateInit_running {s : State} (h : s.running) : (stateInit s).running := by
  obtain ⟨hl, -, -, -, -, hiref, -, -, -, -⟩ := h
  obtain ⟨hdcN, hacN, hrmsN, -⟩ := Cfg.legal_spec hl
  rw [stateInit_eq]
  exact ⟨hl, MafUnit.bounded_zero hdcN, MafUnit.bounded_zero hacN, RmsUnit.bounded_zero hrmsN,
    Phase.code_le_four .offsetMeas, hiref, Nat.zero_le _, .inl rfl, .inl rfl, .inl rfl⟩

theorem stateOffsetMeas_running {s : State} (h : s.running) : (stateOffsetMeas s).running := by
  obtain ⟨hl, hdc, hac, hrms, hphase, hrest⟩ := h
  rw [stateOffsetMeas_eq, calUpdate_eq]
  split_ifs
  · exact ⟨hl, hdc, hac, hrms, Phase.code_le_four .wait1Cycle, hrest⟩
  · exact ⟨hl, hdc, hac, hrms, hphase, hrest⟩

theorem stateWait1Cycle_running {s : State} (h : s.running) : (stateWait1Cycle s).running := by
  obtain ⟨hl, hdc, hac, hrms, hphase, hrest⟩ := h
  rw [stateWait1Cycle_eq]
  split_ifs
  · exact ⟨hl, hdc, hac, hrms, Phase.code_le_four .ctrlRun, hrest⟩
  · exact ⟨hl, hdc, hac, hrms, hphase, hrest⟩

theorem stateCtrlRun_running {s : State} (h : s.running) : (stateCtrlRun s).running := by
  have hcorr := iCorr_running h
  rw [stateCtrlRun_eq]
  split_ifs
  · obtain ⟨hl, hdc, hac, hrms, -, hiref, hvl, -, hpi⟩ := hcorr
    exact ⟨hl, hdc, hac, hrms, Phase.code_le_four .fault, hiref, hvl, .inl rfl, hpi⟩
  · exact iLoop_running (boostD_running (iRef_running (vLoop_running (softStart_running hcorr))))

theorem stateFault_running {s : State} (h : s.running) : (stateFault s).running := by
  obtain ⟨hl, hdc, hac, hrms, hphase, hiref, hvl, -, hpi⟩ := h
  rw [stateFault_eq]
  split_ifs
  · exact ⟨hl, hdc, hac, hrms, Phase.code_le_four .ctrlRun, hiref, hvl, .inl rfl, hpi⟩
  · exact ⟨hl, hdc, hac, hrms, hphase, hiref, hvl, .inl rfl, hpi⟩

theorem dispatch_running (p : Phase) {s : State} (h : s.running) : (dispatch p s).running := by
  unfold dispatch
  split
  · exact stateInit_running h
  · exact stateOffsetMeas_running h
  · exact stateWait1Cycle_running h
  · exact stateCtrlRun_running h
  · exact stateFault_running h

theorem tickCommand_running {s : State} (h : s.running) : (tickCommand s).running := by
  unfold tickCommand
  split
  · exact h
  · have hlatch : s.latch.running := State.withSnap_running h _
    have hmeasured := faultTrip_running (estim_running hlatch)
    exact dispatch_running _ hmeasured

/-- A passing INIT sets every bound, from any state (45_sequencer.md R292). -/
theorem initPass_running {s : State} (hl : s.cfg.legal = true) : (initPass s).running := by
  obtain ⟨hdcN, hacN, hrmsN, -⟩ := Cfg.legal_spec hl
  have hiref : 0 ≤ (0 : W16).toInt ∧ (0 : W16).toInt ≤ 32735 := by decide
  exact ⟨hl, MafUnit.bounded_zero hdcN, MafUnit.bounded_zero hacN, RmsUnit.bounded_zero hrmsN,
    Phase.code_le_four .init, hiref, Nat.zero_le _, .inl rfl, .inl rfl, .inl rfl⟩

theorem initCommand_runInvariant (s : State) : (initCommand s).runInvariant := by
  unfold initCommand
  split_ifs with hl
  · exact fun _ => initPass_running hl
  · exact fun hc => absurd hc Bool.false_ne_true

/-! ## A step -/

/-- A G2 command keeps the invariant if its operation keeps the bounds: the gate says CONFIGURED is 1. -/
theorem gated_g2_runInvariant {f : State → State} {s t : State} (h : s.runInvariant) (ht : gated .g2 f s = .next t)
    (hf : s.running → (f s).running) : t.runInvariant :=
  gated_elim ht h fun hg _ => hf (h (Gate.g2_configured hg))

theorem exec_runInvariant {i : Instr} {s t : State} (h : s.runInvariant) (ht : exec i s = .next t) :
    t.runInvariant := by
  cases i with
  | nop | sat16 | clamp | mulq | mulshr | divq | divt | acc | shra | rect =>
    obtain rfl | rfl | ⟨v, rfl⟩ := exec_primitive (by decide) ht <;> exact h
  | mafUpdateDcavg =>
    simp only [exec, execMafUpdateDcavg] at ht
    exact gated_g2_runInvariant h ht (mafUpdate_running .dcavg (opSigned_range _))
  | mafUpdateAcavg =>
    simp only [exec, execMafUpdateAcavg] at ht
    exact gated_g2_runInvariant h ht (mafUpdate_running .acavg (opSigned_range _))
  | mafResetDcavg => exact gated_g2_runInvariant h ht (mafReset_running .dcavg)
  | mafResetAcavg => exact gated_g2_runInvariant h ht (mafReset_running .acavg)
  | rmsUpdate => exact gated_g2_runInvariant h ht (rmsUpdate_running (opUnsigned_range _))
  | rmsReset => exact gated_g2_runInvariant h ht rmsReset_running
  | piUpdatePiv =>
    simp only [exec, execPiUpdatePiv] at ht
    exact gated_g2_runInvariant h ht (piUpdate_running .piv _ _)
  | piUpdatePic =>
    simp only [exec, execPiUpdatePic] at ht
    exact gated_g2_runInvariant h ht (piUpdate_running .pic _ _)
  | piResetPiv => exact gated_g2_runInvariant h ht (piReset_running .piv)
  | piResetPic => exact gated_g2_runInvariant h ht (piReset_running .pic)
  | softstart => exact gated_g2_runInvariant h ht softStart_running
  | vloop => exact gated_g2_runInvariant h ht vLoop_running
  | iref => exact gated_g2_runInvariant h ht iRef_running
  | boostd => exact gated_g2_runInvariant h ht boostD_running
  | icorr => exact gated_g2_runInvariant h ht iCorr_running
  | iloop => exact gated_g2_runInvariant h ht iLoop_running
  | faultTrip => exact gated_g2_runInvariant h ht faultTrip_running
  | faultRecover => exact gated_g2_runInvariant h ht faultRecover_running
  | estim => exact gated_g2_runInvariant h ht estim_running
  | init => exact gated_elim (g := .g3) ht h fun _ => initCommand_runInvariant s
  | tick => exact gated_elim (g := .g4) ht h fun hg _ => tickCommand_running (h hg)

/-- A bus write that is no debug write keeps the invariant: a sample or TRIGEN is under no bound, and a write of the
configuration or of an option clears CONFIGURED (20_memory.md R82, R83). -/
theorem busWrite_runInvariant {a : Addr} {v : W16} {s : State} (h : s.runInvariant)
    (hd : s.ctrl.trigen = false → classOf a ≠ .d) : (busWrite a v s).runInvariant := by
  obtain ⟨r, -, hcls, he⟩ | ⟨-, he⟩ | he | ⟨r, hr, hcls, ht, -⟩ | ⟨r, -, -, -, he⟩ := busWrite_cases a v s
  · rw [he, Reg.set_of_cls_i r v s hcls]
    exact h
  · rw [he]
    obtain ⟨hw, -⟩ | ⟨hw, -⟩ | ⟨hw, -⟩ := writeCtrl_cases v s
    · rw [hw]
      exact h
    · rw [hw]
      exact h
    · rw [hw]
      exact fun hc => absurd hc Bool.false_ne_true
  · rw [he]
    exact h
  · exact absurd (by simp only [classOf, hr, hcls]) (hd ht)
  · rw [he]
    exact fun hc => absurd hc Bool.false_ne_true

theorem step_runInvariant {s t : State} (h : s.runInvariant)
    (hd : s.ctrl.trigen = false → ∀ e ∈ s.port.head?, e.isDebugWrite = false) (ht : step s = .next t) :
    t.runInvariant := by
  obtain rfl | ⟨e, rest, hport, ⟨i, hi⟩ | ⟨a, v, rfl, rfl⟩ | rfl | ⟨torn, host, telemetry, rfl⟩⟩ := step_cases ht
  · exact h
  · exact exec_runInvariant (s := { s with port := rest }) h hi
  · refine busWrite_runInvariant (s := { s with port := rest }) h fun htrig hcls => ?_
    have hno := hd htrig (.busWrite a v) (by simp [hport])
    simp [PortEvent.isDebugWrite, hcls] at hno
  · exact h
  · exact h

/-- Settles O55, by the event the step takes: each operation keeps the bounds, and a passing INIT sets them. -/
theorem everyStepWithoutDebugWriteKeepsTheBounds : Obligations.EveryStepWithoutDebugWriteKeepsTheBounds := by
  refine ⟨fun s t h hd ht => step_runInvariant h hd ht, fun s t htrig hl ht => ?_⟩
  obtain rfl : initPass s = t := by
    simpa [exec, execInit, gated, Gate.holds, htrig, initCommand, hl] using ht
  exact ⟨rfl, fun _ => initPass_running hl⟩

end Sys2Proof.Machine
end

section
/-!
PROOFS. OUTEN and the switching-output calls (10_state.md R32, 60_exceptions.md R347): what a step adds to the record
of calls, and that OUTEN follows the last switching call it adds.
-/
namespace Sys2Proof.Machine

/-- From s to t calls were only added, and OUTEN is as the last switching call among them left it. -/
def State.SwitchesTo (s t : State) : Prop :=
  ∃ made, t.calls = s.calls ++ made ∧ t.status.outen = (lastSwitch made).getD s.status.outen

/-- The last switching call of a record with calls added: theirs if they hold one, else the record's. -/
theorem lastSwitch_append (calls made : List Call) :
    lastSwitch (calls ++ made) = (lastSwitch made).or (lastSwitch calls) := by
  induction made using List.reverseRecOn with
  | nil => simp [lastSwitch]
  | append_singleton made c ih =>
    rw [← List.append_assoc]
    cases c <;> simp_all [lastSwitch]

theorem State.SwitchesTo.outenMirrors {s t : State} (h : s.SwitchesTo t) (hs : s.outenMirrors) : t.outenMirrors := by
  obtain ⟨made, hcalls, houten⟩ := h
  rw [State.outenMirrors, houten, hcalls, lastSwitch_append, hs]
  cases lastSwitch made <;> rfl

theorem State.SwitchesTo.of_eq {s t : State} (hcalls : t.calls = s.calls) (houten : t.status.outen = s.status.outen) :
    s.SwitchesTo t :=
  ⟨[], by simpa using hcalls, houten⟩

/-! ## The estimators write ready flags only, not OUTEN -/

@[simp] theorem mafUpdate_outen (u : MafSel) (x : Int) (s : State) :
    (mafUpdate u x s).status.outen = s.status.outen := by
  unfold mafUpdate
  dsimp only
  split_ifs <;> simp

@[simp] theorem mafReset_outen (u : MafSel) (s : State) : (mafReset u s).status.outen = s.status.outen := by
  simp [mafReset]

@[simp] theorem rmsUpdate_outen (x : Int) (s : State) : (rmsUpdate x s).status.outen = s.status.outen := by
  unfold rmsUpdate
  dsimp only
  split_ifs <;> rfl

@[simp] theorem rmsReset_outen (s : State) : (rmsReset s).status.outen = s.status.outen := rfl

/-! ## The sequencer -/

theorem stateInit_switches (s : State) : s.SwitchesTo (stateInit s) := by
  rw [stateInit_eq]
  exact ⟨[.disableOutputs, .calStart], rfl, rfl⟩

theorem stateOffsetMeas_switches (s : State) : s.SwitchesTo (stateOffsetMeas s) := by
  rw [stateOffsetMeas_eq, calUpdate_eq]
  split_ifs <;> exact ⟨[.calUpdate], rfl, rfl⟩

theorem stateWait1Cycle_switches (s : State) : s.SwitchesTo (stateWait1Cycle s) := by
  rw [stateWait1Cycle_eq]
  split_ifs
  · exact ⟨[.enableOutputs], rfl, rfl⟩
  · exact .of_eq rfl rfl

theorem stateCtrlRun_switches (s : State) : s.SwitchesTo (stateCtrlRun s) := by
  rw [stateCtrlRun_eq]
  split_ifs
  · exact ⟨[.disableOutputs], rfl, rfl⟩
  · exact .of_eq (by simp) (by simp)

/-- FAULT disables the outputs before its return may enable them (45_sequencer.md R301). -/
theorem stateFault_switches (s : State) : s.SwitchesTo (stateFault s) := by
  rw [stateFault_eq]
  split_ifs
  · exact ⟨[.disableOutputs, .enableOutputs], by simp, rfl⟩
  · exact ⟨[.disableOutputs], rfl, rfl⟩

theorem dispatch_switches (p : Phase) (s : State) : s.SwitchesTo (dispatch p s) := by
  unfold dispatch
  split
  · exact stateInit_switches s
  · exact stateOffsetMeas_switches s
  · exact stateWait1Cycle_switches s
  · exact stateCtrlRun_switches s
  · exact stateFault_switches s

theorem tickCommand_switches (s : State) : s.SwitchesTo (tickCommand s) := by
  unfold tickCommand
  split
  · exact .of_eq rfl rfl
  · rename_i p hp
    obtain ⟨made, hcalls, houten⟩ := dispatch_switches p (faultTrip (estim s.latch))
    exact ⟨made, by simpa using hcalls, by simpa using houten⟩

theorem initCommand_switches (s : State) : s.SwitchesTo (initCommand s) := by
  unfold initCommand
  split_ifs
  · exact ⟨[.disableOutputs], by simp [initPass], rfl⟩
  · exact .of_eq rfl rfl

/-! ## A step -/

theorem gated_switches {g : Gate} {f : State → State} {s t : State} (ht : gated g f s = .next t)
    (hf : s.SwitchesTo (f s)) : s.SwitchesTo t :=
  gated_elim ht (.of_eq rfl rfl) fun _ => hf

theorem exec_switches {i : Instr} {s t : State} (ht : exec i s = .next t) : s.SwitchesTo t := by
  cases i with
  | nop | sat16 | clamp | mulq | mulshr | divq | divt | acc | shra | rect =>
    obtain rfl | rfl | ⟨v, rfl⟩ := exec_primitive (by decide) ht <;> exact .of_eq rfl rfl
  | init => exact gated_switches (g := .g3) ht (initCommand_switches s)
  | tick => exact gated_switches (g := .g4) ht (tickCommand_switches s)
  | _ =>
    simp only [exec, execMafUpdateDcavg, execMafUpdateAcavg, execMafResetDcavg, execMafResetAcavg, execRmsUpdate,
      execRmsReset, execPiUpdatePiv, execPiUpdatePic, execPiResetPiv, execPiResetPic, execSoftstart, execVloop, execIref,
      execBoostd, execIcorr, execIloop, execFaultTrip, execFaultRecover, execEstim] at ht
    exact gated_switches ht (.of_eq (by simp) (by simp))

/-- No bus write reaches OUTEN: STATUS is of class S (10_state.md R32). -/
theorem busWrite_switches (a : Addr) (v : W16) (s : State) : s.SwitchesTo (busWrite a v s) := by
  obtain ⟨r, -, -, he⟩ | ⟨-, he⟩ | he | ⟨r, -, -, -, he⟩ | ⟨r, -, -, -, he⟩ := busWrite_cases a v s <;> rw [he]
  case inr.inl =>
    obtain ⟨hw, -⟩ | ⟨hw, -⟩ | ⟨hw, -⟩ := writeCtrl_cases v s <;> rw [hw] <;> exact .of_eq rfl rfl
  all_goals exact .of_eq (by simp) (by simp)

theorem step_switches {s t : State} (ht : step s = .next t) : s.SwitchesTo t := by
  obtain rfl | ⟨e, rest, -, ⟨i, hi⟩ | ⟨a, v, -, rfl⟩ | rfl | ⟨torn, host, telemetry, rfl⟩⟩ := step_cases ht
  · exact .of_eq rfl rfl
  · exact exec_switches (s := { s with port := rest }) hi
  · exact busWrite_switches a v { s with port := rest }
  · exact .of_eq rfl rfl
  · exact .of_eq rfl rfl

/-- Settles O57: every step only adds calls, and OUTEN follows the last switching call it adds. -/
theorem everyStepKeepsOutenTheLastSwitchCall : Obligations.EveryStepKeepsOutenTheLastSwitchCall := by
  intro s t hs ht
  have hmirrors := (step_switches ht).outenMirrors hs
  obtain ⟨made, hcalls, -⟩ := step_switches ht
  exact ⟨hmirrors, made, hcalls⟩

end Sys2Proof.Machine
end

section
/-!
PROOFS. What TICK does not read (10_state.md R37, R41): with other operand registers and another RMS_PEAK in place it
does the same. Every operation of a TICK passes both through but RmsUpdate, which makes a new peak of the old one, and
the reset of state INIT, which clears it.
-/
namespace Sys2Proof.Machine

/-- The state with other operand registers and another RMS_PEAK, the two that no TICK reads. -/
def State.withUnread (o : Operands) (p : W16) (s : State) : State :=
  { s with operands := o, rms := { s.rms with peak := p } }

/-- Put in place what stands there already. -/
theorem State.withUnread_self (s : State) : s.withUnread s.operands s.rms.peak = s := rfl

section
variable (o : Operands) (p : W16) (s : State)

@[simp] theorem State.withUnread_cfg : (s.withUnread o p).cfg = s.cfg := rfl
@[simp] theorem State.withUnread_fault : (s.withUnread o p).fault = s.fault := rfl
@[simp] theorem State.withUnread_snap : (s.withUnread o p).snap = s.snap := rfl
@[simp] theorem State.withUnread_dcavg : (s.withUnread o p).dcavg = s.dcavg := rfl
@[simp] theorem State.withUnread_rms_out : (s.withUnread o p).rms.out = s.rms.out := rfl

/-- A branch taken on what stays in place commutes if its two sides do. -/
theorem ite_withUnread (c : Prop) [Decidable c] (a b : State) :
    (if c then a.withUnread o p else b.withUnread o p) = (if c then a else b).withUnread o p :=
  (apply_ite (State.withUnread o p) c a b).symm

/-! ## Measurement -/

theorem latch_withUnread : (s.withUnread o p).latch = s.latch.withUnread o p := rfl

theorem mafUpdate_withUnread (u : MafSel) (x : Int) :
    mafUpdate u x (s.withUnread o p) = (mafUpdate u x s).withUnread o p := by
  cases u <;>
  · unfold mafUpdate
    dsimp only
    rw [← ite_withUnread]
    rfl

/-- The one operation of a TICK that reads the peak: the next peak is of the old one and the sample alone (R175). -/
theorem rmsUpdate_withUnread (x : Int) :
    rmsUpdate x (s.withUnread o p) = (rmsUpdate x s).withUnread o (to16 (max (uint16 p) x)) := by
  unfold rmsUpdate
  dsimp only
  rw [← ite_withUnread]
  rfl

theorem estim_withUnread :
    estim (s.withUnread o p) = (estim s).withUnread o (to16 (max (uint16 p) (uint16 (estim s).snap.rect))) := by
  simp only [estim, mafUpdate_withUnread, rmsUpdate_snap, State.withUnread_snap]
  rw [← rmsUpdate_withUnread]
  rfl

theorem faultTrip_withUnread : faultTrip (s.withUnread o p) = (faultTrip s).withUnread o p := by
  have hset : ∀ (b : W16) (r : State), (r.withUnread o p).faultSet b = (r.faultSet b).withUnread o p := fun _ _ => rfl
  simp only [faultTrip, hset, ite_withUnread, State.withUnread_cfg, State.withUnread_dcavg, State.withUnread_rms_out]

theorem faultRecover_withUnread : faultRecover (s.withUnread o p) = (faultRecover s).withUnread o p := by
  have hclear : ∀ (b : W16) (r : State), (r.withUnread o p).faultClear b = (r.faultClear b).withUnread o p :=
    fun _ _ => rfl
  simp only [faultRecover, hclear, ite_withUnread, State.withUnread_cfg, State.withUnread_dcavg,
    State.withUnread_rms_out]

/-! ## The control loop -/

theorem softStart_withUnread : softStart (s.withUnread o p) = (softStart s).withUnread o p := by
  simp only [softStart, ← ite_withUnread]
  rfl

theorem piUpdate_withUnread (u : PiSel) (e ki : W16) :
    piUpdate u e ki (s.withUnread o p) = (piUpdate u e ki s).withUnread o p := by
  cases u <;> rfl

theorem vLoop_withUnread : vLoop (s.withUnread o p) = (vLoop s).withUnread o p := by
  simp only [vLoop, ← ite_withUnread]
  rfl

theorem iRef_withUnread : iRef (s.withUnread o p) = (iRef s).withUnread o p := rfl

theorem boostD_withUnread : boostD (s.withUnread o p) = (boostD s).withUnread o p := by
  simp only [boostD, ← ite_withUnread]
  rfl

theorem iCorr_withUnread : iCorr (s.withUnread o p) = (iCorr s).withUnread o p := by
  simp only [iCorr, ← ite_withUnread]
  rfl

theorem dutyConvert_withUnread : dutyConvert (s.withUnread o p) = (dutyConvert s).withUnread o p := by
  simp only [dutyConvert, ← ite_withUnread]
  rfl

theorem standbyOverride_withUnread : standbyOverride (s.withUnread o p) = (standbyOverride s).withUnread o p := by
  simp only [standbyOverride, ← ite_withUnread]
  rfl

theorem iLoop_withUnread : iLoop (s.withUnread o p) = (iLoop s).withUnread o p := by
  simp only [iLoop]
  rw [← standbyOverride_withUnread, ← dutyConvert_withUnread, ← piUpdate_withUnread]
  rfl

/-! ## The handlers -/

/-- State INIT resets the RMS unit, its peak included (45_sequencer.md R297). -/
theorem stateInit_withUnread : stateInit (s.withUnread o p) = (stateInit s).withUnread o 0 := by
  rw [stateInit_eq, stateInit_eq]
  rfl

theorem takeCalAnswer_withUnread : (s.withUnread o p).takeCalAnswer = s.takeCalAnswer.withUnread o p := by
  cases hc : s.calAnswers <;> simp only [State.takeCalAnswer, State.withUnread, hc]

theorem calUpdate_withUnread : (s.withUnread o p).calUpdate = s.calUpdate.withUnread o p := by
  simp only [State.calUpdate, takeCalAnswer_withUnread]
  rfl

theorem stateOffsetMeas_withUnread : stateOffsetMeas (s.withUnread o p) = (stateOffsetMeas s).withUnread o p := by
  simp only [stateOffsetMeas, calUpdate_withUnread, ← ite_withUnread]
  rfl

theorem stateWait1Cycle_withUnread : stateWait1Cycle (s.withUnread o p) = (stateWait1Cycle s).withUnread o p := by
  simp only [stateWait1Cycle, ← ite_withUnread]
  rfl

theorem stateCtrlRun_withUnread : stateCtrlRun (s.withUnread o p) = (stateCtrlRun s).withUnread o p := by
  simp only [stateCtrlRun, iCorr_withUnread, softStart_withUnread, vLoop_withUnread, iRef_withUnread,
    boostD_withUnread, iLoop_withUnread]
  rw [← ite_withUnread]
  rfl

theorem stateFault_withUnread : stateFault (s.withUnread o p) = (stateFault s).withUnread o p := by
  rw [stateFault_eq, stateFault_eq, faultRecover_withUnread, State.withUnread_fault, ← ite_withUnread]
  generalize (faultRecover s).fault = mask
  rfl

end

/-! ## TICK -/

/-- The peak a handler leaves depends on the peak and the handler alone, so it is one for all operands. -/
theorem dispatch_withUnread (ph : Phase) (p : W16) (s : State) :
    ∃ q, ∀ o, dispatch ph (s.withUnread o p) = (dispatch ph s).withUnread o q := by
  cases ph with
  | init => exact ⟨0, fun o => stateInit_withUnread o p s⟩
  | offsetMeas => exact ⟨p, fun o => stateOffsetMeas_withUnread o p s⟩
  | wait1Cycle => exact ⟨p, fun o => stateWait1Cycle_withUnread o p s⟩
  | ctrlRun => exact ⟨p, fun o => stateCtrlRun_withUnread o p s⟩
  | fault => exact ⟨p, fun o => stateFault_withUnread o p s⟩

theorem tickCommand_withUnread (p : W16) (s : State) :
    ∃ q, ∀ o, tickCommand (s.withUnread o p) = (tickCommand s).withUnread o q := by
  unfold tickCommand
  cases hp : Phase.ofCode s.status.state with
  | none =>
    refine ⟨p, fun o => ?_⟩
    have hphase : Phase.ofCode (s.withUnread o p).status.state = none := hp
    simp only [hphase]
    rfl
  | some ph =>
    obtain ⟨q, hdispatch⟩ := dispatch_withUnread ph (to16 (max (uint16 p) (uint16 (estim s.latch).snap.rect)))
      (faultTrip (estim s.latch))
    refine ⟨q, fun o => ?_⟩
    have hphase : Phase.ofCode (s.withUnread o p).status.state = some ph := hp
    simp only [hphase, latch_withUnread, estim_withUnread, faultTrip_withUnread, hdispatch]

/-- TICK, taken or refused, with others of the unread registers in place (R37, R41). -/
theorem exec_tick_withUnread (p : W16) {s t : State} (ht : exec .tick s = .next t) :
    ∃ q, ∀ o, exec .tick (s.withUnread o p) = .next (t.withUnread o q) := by
  obtain ⟨hg, rfl⟩ | ⟨hg, rfl⟩ := (gated_next .g4 tickCommand s t).mp ht
  · obtain ⟨q, hq⟩ := tickCommand_withUnread p s
    refine ⟨q, fun o => ?_⟩
    rw [← hq]
    exact gated_of_holds hg
  · exact ⟨p, fun o => gated_of_not_holds hg⟩

/-- Settles O49: a TICK commutes with other operands and another peak; with its own in their place it leaves its own. -/
theorem tickIgnoresOperandsAndPeak : Obligations.TickIgnoresOperandsAndPeak := by
  intro s o p
  obtain ⟨t, ht⟩ := exec_isNext .tick s
  obtain ⟨q, hq⟩ := exec_tick_withUnread p ht
  obtain ⟨q', hq'⟩ := exec_tick_withUnread s.rms.peak ht
  have hself := hq' s.operands
  rw [State.withUnread_self, ht] at hself
  have hown : t = t.withUnread s.operands q' := Host.Outcome.next.inj hself
  have hoperands : t.operands = s.operands := by rw [hown]; rfl
  have hpeak : t.rms.peak = q' := by rw [hown]; rfl
  have hkeep : t.withUnread s.operands q = { t with rms := { t.rms with peak := q } } := by
    rw [← hoperands]
    rfl
  subst hpeak
  exact ⟨t, ht, hoperands, hq' o, q, (hq s.operands).trans (congrArg Host.Outcome.next hkeep)⟩

end Sys2Proof.Machine
end

section
/-!
PROOFS. The register map (10_state.md R51): a read of an address is the map's word there (20_memory.md R81), and every
address has the class the map gives it (10_state.md R31).
-/
namespace Sys2Proof.Machine

/-! ## Words of flags and halves -/

theorem loWord_eq_lo16 (r : W32) : loWord r = lo16 r := by
  apply BitVec.eq_of_toNat_eq
  simp [loWord, lo16]

theorem hiWord_eq_hi16 (r : W32) : hiWord r = hi16 r := by
  apply BitVec.eq_of_toNat_eq
  simp only [hiWord, hi16, BitVec.extractLsb'_toNat, Nat.shiftRight_eq_div_pow, BitVec.toNat_ofNat]

/-- A flag above all the bits of a word adds its weight. -/
theorem toNat_or_flagAt {x : W16} {k : Nat} (b : Bool) (hk : k < 16) (hx : x.toNat < 2 ^ k) :
    (x ||| flagAt b k).toNat = x.toNat + 2 ^ k * b.toNat ∧ (x ||| flagAt b k).toNat < 2 ^ (k + 1) := by
  have hpow : 2 ^ k < 2 ^ 16 := Nat.pow_lt_pow_right (by decide) hk
  have hsum : (x ||| flagAt b k).toNat = x.toNat + 2 ^ k * b.toNat := by
    cases b
    · simp [flagAt]
    · have hflag : (flagAt true k).toNat = 2 ^ k := by
        simpa [flagAt, Nat.shiftLeft_eq] using hpow
      have hor := Nat.two_pow_add_eq_or_of_lt hx 1
      rw [mul_one] at hor
      rw [BitVec.toNat_or, hflag, Nat.or_comm, Bool.toNat_true, ← hor]
      omega
  refine ⟨hsum, ?_⟩
  cases b <;> simp only [Bool.toNat_false, Bool.toNat_true] at hsum <;> omega

theorem ctrlWord_eq_word (c : Ctrl) : ctrlWord c = c.word := by
  obtain ⟨trigen, ocorrEn, pbalEn, dcmEn⟩ := c
  revert trigen ocorrEn pbalEn dcmEn
  decide

/-- The flags of STATUS stand one above the other, over the three bits of STATE (10_state.md R32). -/
theorem statusWord_eq_word (t : Status) : statusWord t = t.word := by
  have hstate : (t.state.setWidth 16).toNat = t.state.toNat := BitVec.toNat_setWidth_of_le (by decide)
  have hlt : (t.state.setWidth 16).toNat < 2 ^ 3 := by rw [hstate]; exact t.state.isLt
  obtain ⟨houten, hlt⟩ := toNat_or_flagAt (k := 3) t.outen (by decide) hlt
  obtain ⟨hcalrdy, hlt⟩ := toNat_or_flagAt (k := 4) t.calrdy (by decide) hlt
  obtain ⟨hdcrdy, hlt⟩ := toNat_or_flagAt (k := 5) t.dcrdy (by decide) hlt
  obtain ⟨hacrdy, hlt⟩ := toNat_or_flagAt (k := 6) t.acrdy (by decide) hlt
  obtain ⟨hrmsrdy, hlt⟩ := toNat_or_flagAt (k := 7) t.rmsrdy (by decide) hlt
  obtain ⟨hconfigured, hlt⟩ := toNat_or_flagAt (k := 8) t.configured (by decide) hlt
  obtain ⟨hcfgerr, hlt⟩ := toNat_or_flagAt (k := 9) t.cfgerr (by decide) hlt
  obtain ⟨hillegal, hlt⟩ := toNat_or_flagAt (k := 10) t.illegal (by decide) hlt
  apply BitVec.eq_of_toNat_eq
  simp only [statusWord, Status.word, BitVec.toNat_ofNat]
  omega

/-! ## Reads -/

/-- The words of the map, in address order. -/
def State.words (s : State) : List W16 :=
  [s.ctrl.word, s.status.word, s.fault, s.duty, s.samples.vdc, s.samples.vac, s.samples.il, lo16 s.operands.a,
    hi16 s.operands.a, lo16 s.operands.b, hi16 s.operands.b, lo16 s.operands.c, hi16 s.operands.c,
    lo16 s.operands.res, hi16 s.operands.res, s.snap.vdc, s.snap.vac, s.snap.vacOffset, s.snap.rect, s.snap.il,
    s.snap.ilOffset, lo16 s.dcavg.sum, hi16 s.dcavg.sum, s.dcavg.cnt, s.dcavg.out, lo16 s.acavg.sum, hi16 s.acavg.sum,
    s.acavg.cnt, s.acavg.out, lo16 s.rms.sum, hi16 s.rms.sum, s.rms.cnt, s.rms.out, s.rms.peak, s.piv.ref, s.piv.err,
    lo16 s.piv.integ, hi16 s.piv.integ, s.piv.out, s.pic.ref, s.pic.err, lo16 s.pic.integ, hi16 s.pic.integ,
    s.pic.out, s.scal.ssCnt, s.scal.vlCnt, s.scal.boostd, s.scal.iref, s.scal.iavg, s.cfg.dcavgN, s.cfg.acavgN,
    s.cfg.rmsN, s.cfg.piv.kp, s.cfg.piv.kps, s.cfg.piv.ki, s.cfg.piv.kis, s.cfg.piv.min, s.cfg.piv.max, s.cfg.pic.kp,
    s.cfg.pic.kps, s.cfg.pic.ki, s.cfg.pic.kis, s.cfg.pic.min, s.cfg.pic.max, s.cfg.vlDiv, s.cfg.shapeK, s.cfg.period,
    s.cfg.dutyMin, s.cfg.dutyMax, lo16 s.cfg.awCeil, hi16 s.cfg.awCeil, s.cfg.voutMinpk, s.cfg.ssStep, s.cfg.ssPeriod,
    s.cfg.vrefFinal, s.cfg.dcOvLim, s.cfg.dcOvRec, s.cfg.acUvLim, s.cfg.acUvRec, s.cfg.acOvLim, s.cfg.acOvRec]

theorem State.words_eq_map (s : State) : s.words = Reg.all.map (Reg.get s) := rfl

/-- The map's table lists the words of the registers at their addresses. -/
theorem registerWords_eq_map (s : State) : registerWords s = Reg.all.map fun r => (r.addr.toNat, r.get s) := by
  simp only [registerWords, ctrlWord_eq_word, statusWord_eq_word, loWord_eq_lo16, hiWord_eq_hi16,
    List.cons_append, List.nil_append]
  rfl

theorem lookup_map_addr (a : Addr) (s : State) (rs : List Reg) :
    (rs.map fun r => (r.addr.toNat, r.get s)).lookup a.toNat = (rs.find? fun r => r.addr == a).map (Reg.get s) := by
  induction rs with
  | nil => rfl
  | cons r rs ih =>
    by_cases hr : r.addr = a
    · simp [hr]
    · have hne : (a.toNat == r.addr.toNat) = false :=
        beq_eq_false_iff_ne.mpr fun h => hr (BitVec.eq_of_toNat_eq h.symm)
      simpa [List.lookup_cons, List.find?_cons, hr, hne] using ih

theorem busRead_eq_lookup (a : Addr) (s : State) : busRead a s = ((registerWords s).lookup a.toNat).getD 0 := by
  rw [registerWords_eq_map, lookup_map_addr, busRead]
  change _ = ((Reg.ofAddr a).map (Reg.get s)).getD 0
  cases Reg.ofAddr a <;> rfl

/-! ## Classes -/

theorem classOf_eq_classByMap (a : Addr) : classOf a = classByMap a.toNat := by
  revert a
  decide

theorem Reg.ofAddr_eq_none {a : Addr} (h : classByMap a.toNat = .r) : Reg.ofAddr a = none := by
  rw [← classOf_eq_classByMap, classOf] at h
  cases hr : Reg.ofAddr a with
  | none => rfl
  | some r =>
    rw [hr] at h
    exact absurd h r.cls_ne_r

/-- An address of a class but R names a register of that class. -/
theorem Reg.exists_ofAddr {a : Addr} {cls : Class} (h : classByMap a.toNat = cls) (hcls : cls ≠ .r) :
    ∃ r, Reg.ofAddr a = some r ∧ r.cls = cls := by
  rw [← classOf_eq_classByMap, classOf] at h
  cases hr : Reg.ofAddr a with
  | none =>
    rw [hr] at h
    exact absurd h.symm hcls
  | some r =>
    rw [hr] at h
    exact ⟨r, rfl, h⟩

/-- Settles O50: the map's table is the table of the registers' words, and an address of class R names no register. -/
theorem busReadFollowsTheRegisterMap : Obligations.BusReadFollowsTheRegisterMap := by
  refine fun a s => ⟨busRead_eq_lookup a s, fun h => ?_⟩
  rw [busRead, Reg.ofAddr_eq_none h]

end Sys2Proof.Machine
end

section
/-!
PROOFS. Bus writes (20_memory.md R82, R83): a word stored is read back and every other address keeps its word; each class
stores or refuses; CTRL gates its option bits.
-/
namespace Sys2Proof.Machine

/-! ## Storing a word -/

theorem Reg.all_getElem? (r : Reg) : Reg.all[r.ctorIdx]? = some r := by cases r <;> rfl

theorem State.words_getElem? (r : Reg) (s : State) : s.words[r.ctorIdx]? = some (r.get s) := by
  rw [State.words_eq_map, List.getElem?_map, Reg.all_getElem?, Option.map_some]

/-- Storing a word replaces that word of the map alone; a half leaves the other half (20_memory.md R82). -/
theorem Reg.words_set (r : Reg) (v : W16) (s : State) (hk : r.cls ≠ .k) (hs : r.cls ≠ .s) :
    (r.set v s).words = s.words.set r.ctorIdx v := by
  cases r with
  | ctrl => exact absurd rfl hk
  | status => exact absurd rfl hs
  | opaLo | opaHi | opbLo | opbHi | opcLo | opcHi | resLo | resHi | dcavgSumLo | dcavgSumHi | acavgSumLo | acavgSumHi
  | rmsSumLo | rmsSumHi | pivIntLo | pivIntHi | picIntLo | picIntHi | awCeilLo | awCeilHi =>
    simp only [State.words, Reg.set, lo16_withLo, hi16_withLo, lo16_withHi, hi16_withHi]
    rfl
  | _ => rfl

theorem Reg.get_set_of_ne {r q : Reg} (v : W16) (s : State) (hk : r.cls ≠ .k) (hs : r.cls ≠ .s) (hne : q ≠ r) :
    q.get (r.set v s) = q.get s := by
  have hidx : r.ctorIdx ≠ q.ctorIdx := by
    intro h
    have hq := Reg.all_getElem? q
    rw [← h, Reg.all_getElem?] at hq
    exact hne (Option.some.inj hq).symm
  have hword := State.words_getElem? q (r.set v s)
  rw [Reg.words_set r v s hk hs, List.getElem?_set_ne hidx, State.words_getElem?] at hword
  exact (Option.some.inj hword).symm

/-- What a store to an address comes to: it reads the word, every other address but STATUS keeps its own, and nothing
outside the registers changes. -/
def Stores (a : Addr) (v : W16) (s t : State) : Prop :=
  busRead a t = v ∧ (∀ b : Addr, b ≠ a → b ≠ 0x01 → busRead b t = busRead b s) ∧ SameOutside s t

theorem Reg.set_stores {a : Addr} {r : Reg} (ha : Reg.ofAddr a = some r) (v : W16) (s : State) (hk : r.cls ≠ .k)
    (hs : r.cls ≠ .s) : Stores a v s (r.set v s) := by
  have hread : busRead a (r.set v s) = v := by
    simp only [busRead, ha]
    exact Reg.get_set_self r v s hk hs
  have hother (b : Addr) (hb : b ≠ a) : busRead b (r.set v s) = busRead b s := by
    unfold busRead
    cases hq : Reg.ofAddr b with
    | none => rfl
    | some q =>
      have hne : q ≠ r := by
        rintro rfl
        exact hb ((Reg.addr_of_ofAddr hq).symm.trans (Reg.addr_of_ofAddr ha))
      exact Reg.get_set_of_ne v s hk hs hne
  exact ⟨hread, fun b hb _ => hother b hb, by simp [SameOutside]⟩

/-- Only the address of STATUS reads STATUS. -/
theorem busRead_withStatus {b : Addr} (hb : b ≠ 0x01) (x : Status) (s : State) :
    busRead b { s with status := x } = busRead b s := by
  unfold busRead
  cases hr : Reg.ofAddr b with
  | none => rfl
  | some r =>
    cases r with
    | status => exact absurd (Reg.addr_of_ofAddr hr).symm hb
    | _ => rfl

theorem Stores.withStatus {a : Addr} {v : W16} {s t : State} (h : Stores a v s t) (ha : a ≠ 0x01) (x : Status) :
    Stores a v s { t with status := x } := by
  obtain ⟨hread, hother, houtside⟩ := h
  exact ⟨(busRead_withStatus ha x t).trans hread,
    fun b hb hb1 => (busRead_withStatus hb1 x t).trans (hother b hb hb1), houtside⟩

/-! ## One rule per class -/

section
variable {a : Addr} {r : Reg} (v : W16) (s : State)

theorem busWrite_cls_i (ha : Reg.ofAddr a = some r) (hc : r.cls = .i) : busWrite a v s = r.set v s := by
  simp only [busWrite, ha, hc]

theorem busWrite_cls_s (ha : Reg.ofAddr a = some r) (hc : r.cls = .s) : busWrite a v s = s.raiseIllegal := by
  simp only [busWrite, ha, hc]

theorem busWrite_cls_r (ha : Reg.ofAddr a = none) : busWrite a v s = s.raiseIllegal := by
  simp only [busWrite, ha]

theorem busWrite_cls_d (ha : Reg.ofAddr a = some r) (hc : r.cls = .d) :
    busWrite a v s = if s.ctrl.trigen then s.raiseIllegal else r.set v s := by
  simp only [busWrite, ha, hc]

theorem busWrite_cls_c (ha : Reg.ofAddr a = some r) (hc : r.cls = .c) :
    busWrite a v s = if s.ctrl.trigen then s.raiseIllegal
      else { r.set v s with status := { s.status with configured := false } } := by
  simp only [busWrite, ha, hc, Reg.set_status]

end

/-- Settles O51, class by class: the rule of the class, and what a store comes to. -/
theorem busWriteActsByClass : Obligations.BusWriteActsByClass := by
  intro a v s stored refused t
  refine ⟨fun h => ?_, fun h => ?_, fun h => ?_, fun h => ?_, fun h => ?_⟩
  · obtain ⟨r, ha, hc⟩ := Reg.exists_ofAddr h (by decide)
    have ht : t = r.set v s := busWrite_cls_i v s ha hc
    rw [ht]
    exact ⟨Reg.set_stores ha v s (by simp [hc]) (by simp [hc]), Reg.set_status r v s⟩
  · obtain ⟨r, ha, hc⟩ := Reg.exists_ofAddr h (by decide)
    exact busWrite_cls_s v s ha hc
  · exact busWrite_cls_r v s (Reg.ofAddr_eq_none h)
  · obtain ⟨r, ha, hc⟩ := Reg.exists_ofAddr h (by decide)
    have ht : t = if s.ctrl.trigen then s.raiseIllegal else r.set v s := busWrite_cls_d v s ha hc
    refine ⟨fun htrig => ?_, fun htrig => ?_⟩
    · rw [ht, if_neg (by simp [htrig])]
      exact ⟨Reg.set_stores ha v s (by simp [hc]) (by simp [hc]), Reg.set_status r v s⟩
    · exact ht.trans (if_pos htrig)
  · obtain ⟨r, ha, hc⟩ := Reg.exists_ofAddr h (by decide)
    have ht : t = if s.ctrl.trigen then s.raiseIllegal
        else { r.set v s with status := { s.status with configured := false } } := busWrite_cls_c v s ha hc
    have hne : a ≠ 0x01 := by
      rintro rfl
      exact absurd h (by decide)
    refine ⟨fun htrig => ?_, fun htrig => ?_⟩
    · rw [ht, if_neg (by simp [htrig])]
      exact ⟨(Reg.set_stores ha v s (by simp [hc]) (by simp [hc])).withStatus hne _, rfl⟩
    · exact ht.trans (if_pos htrig)

/-! ## CTRL -/

/-- The option bits of a word are those of CTRL. -/
def Ctrl.SameOptions (c : Ctrl) (v : W16) : Prop :=
  v.getLsbD 1 = c.ocorrEn ∧ v.getLsbD 2 = c.pbalEn ∧ v.getLsbD 3 = c.dcmEn

/-- The write's own test for a change of options, which compares CTRL as a whole with TRIGEN put back. -/
theorem Ctrl.optionsChange_iff (c : Ctrl) (v : W16) :
    ((⟨c.trigen, v.getLsbD 1, v.getLsbD 2, v.getLsbD 3⟩ : Ctrl) != c) = true ↔ ¬ c.SameOptions v := by
  obtain ⟨trigen, ocorrEn, pbalEn, dcmEn⟩ := c
  simp [Ctrl.SameOptions]

section
variable {v : W16} {s : State}

theorem writeCtrl_of_sameOptions (h : s.ctrl.SameOptions v) :
    writeCtrl v s = { s with ctrl := { s.ctrl with trigen := v.getLsbD 0 } } := by
  have hchange := Bool.eq_false_iff.mpr (mt (Ctrl.optionsChange_iff s.ctrl v).mp (not_not_intro h))
  simp only [writeCtrl, hchange, Bool.and_false, Bool.false_eq_true, if_false]

theorem writeCtrl_of_enabled (h : ¬ s.ctrl.SameOptions v) (htrig : s.ctrl.trigen = true) :
    writeCtrl v s = { s with ctrl := { s.ctrl with trigen := v.getLsbD 0 } }.raiseIllegal := by
  have hchange := (Ctrl.optionsChange_iff s.ctrl v).mpr h
  rw [htrig] at hchange
  simp only [writeCtrl, htrig, hchange, Bool.and_true, if_true]

theorem writeCtrl_of_masked (h : ¬ s.ctrl.SameOptions v) (htrig : s.ctrl.trigen = false) :
    writeCtrl v s = { s with
      ctrl := { trigen := v.getLsbD 0, ocorrEn := v.getLsbD 1, pbalEn := v.getLsbD 2, dcmEn := v.getLsbD 3 }
      status := { s.status with configured := false } } := by
  have hchange := (Ctrl.optionsChange_iff s.ctrl v).mpr h
  rw [htrig] at hchange
  simp only [writeCtrl, htrig, hchange, Bool.false_and, Bool.false_eq_true, if_false, if_true]

end

theorem busWrite_ctrl (v : W16) (s : State) : busWrite 0x00 v s = writeCtrl v s := by
  have ha : Reg.ofAddr 0x00 = some .ctrl := Reg.ofAddr_addr .ctrl
  simp only [busWrite, ha, Reg.cls]

/-- Settles O52: the three outcomes of a write of CTRL. -/
theorem ctrlWriteGatesTheOptions : Obligations.CtrlWriteGatesTheOptions := by
  intro v s same
  rw [busWrite_ctrl]
  exact ⟨writeCtrl_of_sameOptions, writeCtrl_of_enabled, writeCtrl_of_masked⟩

end Sys2Proof.Machine
end

section
/-!
PROOFS. What a step does with each event of the port (20_memory.md R81, R90, R91): a command word runs its command, a
read appends one word, a write acts through the bus.
-/
namespace Sys2Proof.Machine

theorem decode_encode (i : Instr) : decode (encode i) = .ok i := by cases i <;> rfl

theorem step_nil {s : State} (hport : s.port = []) : step s = .next s := by
  simp only [step, portStep, hport]

theorem step_cons {s : State} {e : PortEvent} {rest : List PortEvent} (hport : s.port = e :: rest) :
    step s = portEvent e { s with port := rest } := by
  simp only [step, portStep, hport]

theorem portCommand_of_decode {w : W16} {i : Instr} (hw : decode w = .ok i) (s : State) :
    portCommand w s = exec i s := by
  simp only [portCommand, hw]

/-- No word of the map depends on the events that wait at the port. -/
theorem busRead_withPort (a : Addr) (s : State) (rest : List PortEvent) :
    busRead a { s with port := rest } = busRead a s := by
  unfold busRead
  cases Reg.ofAddr a with
  | none => rfl
  | some r => cases r <;> rfl

/-- The word of a command placed first on the port is the event the next step takes. -/
theorem withFetchWord_encode (s : State) (i : Instr) :
    s.withFetchWord 16 (encode i).toNat = { s with port := .command (encode i) :: s.port } := by
  have hword : BitVec.ofNat 16 ((encode i).toNat % 2 ^ 16) = encode i := by
    rw [Nat.mod_eq_of_lt (encode i).isLt, BitVec.ofNat_toNat, BitVec.setWidth_eq]
  simp only [State.withFetchWord, portPresent, hword]

/-- Settles O5: a legal word first on the port runs its command, and the encoder's word decodes to its command. -/
theorem stepRunsTheDecodedCommand : Obligations.StepRunsTheDecodedCommand := by
  refine ⟨fun s w rest i hport hw => ?_, fun s i => ?_⟩
  · rw [step_cons hport]
    exact portCommand_of_decode hw _
  · rw [withFetchWord_encode, step_cons rfl]
    exact portCommand_of_decode (decode_encode i) s

/-- Settles O6, by the event: none, a host read, a host write. -/
theorem stepTakesTheFirstPortEvent : Obligations.StepTakesTheFirstPortEvent := by
  refine ⟨fun s hport => step_nil hport, fun s a rest hport => ?_, fun s a v rest hport => step_cons hport⟩
  rw [step_cons hport, portEvent, portBusRead, busRead_withPort]

/-- Settles O8, by whether the read overlaps a TICK: a free draw if it does, the register's word if not. -/
theorem telemetryReadsAreExactOutsideTicks : Obligations.TelemetryReadsAreExactOutsideTicks := by
  intro s a overlaps rest hport
  rw [step_cons hport]
  cases overlaps with
  | true => exact ⟨_, _, rfl, rfl, fun h => absurd h (by decide), _, rfl⟩
  | false => exact ⟨_, _, rfl, rfl, fun _ => busRead_withPort a s rest, _, rfl⟩

end Sys2Proof.Machine
end

section
/-!
PROOFS. While TRIGEN = 1 the setup of the block is fixed (20_memory.md R89, 70_reset_and_hazards.md R381): only NOP and
TICK pass their gates, neither writes it, and the bus refuses every write that would.
-/
namespace Sys2Proof.Machine

/-- The configuration registers, the options, the operand registers and CONFIGURED are the same in both states. -/
def State.SameSetup (s t : State) : Prop :=
  t.cfg = s.cfg ∧ t.ctrl.ocorrEn = s.ctrl.ocorrEn ∧ t.ctrl.pbalEn = s.ctrl.pbalEn ∧ t.ctrl.dcmEn = s.ctrl.dcmEn
    ∧ t.operands = s.operands ∧ t.status.configured = s.status.configured

theorem State.SameSetup.refl (s : State) : s.SameSetup s := ⟨rfl, rfl, rfl, rfl, rfl, rfl⟩

theorem raiseIllegal_sameSetup (s : State) : s.SameSetup s.raiseIllegal := .refl s

/-! ## TICK does not write CONFIGURED -/

theorem stateInit_configured (s : State) : (stateInit s).status.configured = s.status.configured := by
  simp only [stateInit_eq]

theorem stateOffsetMeas_configured (s : State) :
    (stateOffsetMeas s).status.configured = s.status.configured := by
  rw [stateOffsetMeas_eq, calUpdate_eq]
  split_ifs <;> rfl

theorem stateWait1Cycle_configured (s : State) :
    (stateWait1Cycle s).status.configured = s.status.configured := by
  rw [stateWait1Cycle_eq]
  split_ifs <;> rfl

theorem stateCtrlRun_configured (s : State) : (stateCtrlRun s).status.configured = s.status.configured := by
  rw [stateCtrlRun_eq]
  split_ifs <;> simp

theorem stateFault_configured (s : State) : (stateFault s).status.configured = s.status.configured := by
  rw [stateFault_eq]
  split_ifs <;> rfl

theorem dispatch_configured (p : Phase) (s : State) : (dispatch p s).status.configured = s.status.configured := by
  unfold dispatch
  split
  · exact stateInit_configured s
  · exact stateOffsetMeas_configured s
  · exact stateWait1Cycle_configured s
  · exact stateCtrlRun_configured s
  · exact stateFault_configured s

theorem tickCommand_configured (s : State) : (tickCommand s).status.configured = s.status.configured := by
  unfold tickCommand
  split
  · rfl
  · rw [dispatch_configured, faultTrip_status, estim_status_configured, State.latch_status]

theorem tickCommand_sameSetup (s : State) : s.SameSetup (tickCommand s) := by
  simp [State.SameSetup, tickCommand_configured]

/-! ## A step -/

/-- Every command runs under its gate (30_encoding.md R116). -/
theorem exec_eq_gated (i : Instr) : ∃ f, ∀ s, exec i s = gated (gateOf i) f s := by
  cases i <;> exact ⟨_, fun _ => rfl⟩

/-- While TRIGEN = 1 only the gates G0 of NOP and G4 of TICK can hold. -/
theorem gate_of_enabled {i : Instr} {s : State} (htrig : s.ctrl.trigen = true)
    (hgate : (gateOf i).holds s = true) : i = .nop ∨ i = .tick := by
  cases i <;> simp [gateOf, Gate.holds, htrig] at hgate ⊢

theorem exec_sameSetup {i : Instr} {s t : State} (htrig : s.ctrl.trigen = true) (ht : exec i s = .next t) :
    s.SameSetup t := by
  obtain ⟨f, hf⟩ := exec_eq_gated i
  by_cases hgate : (gateOf i).holds s = true
  · obtain rfl | rfl := gate_of_enabled htrig hgate
    · exact gated_elim (g := .g0) (f := fun s => s) ht (raiseIllegal_sameSetup s) fun _ => .refl s
    · exact gated_elim (g := .g4) (f := tickCommand) ht (raiseIllegal_sameSetup s) fun _ => tickCommand_sameSetup s
  · rw [hf] at ht
    exact gated_elim ht (raiseIllegal_sameSetup s) fun h => absurd h hgate

theorem busWrite_sameSetup (a : Addr) (v : W16) {s : State} (htrig : s.ctrl.trigen = true) :
    s.SameSetup (busWrite a v s) := by
  obtain ⟨r, -, hcls, he⟩ | ⟨-, he⟩ | he | ⟨r, -, -, hmasked, -⟩ | ⟨r, -, -, hmasked, -⟩ := busWrite_cases a v s
  · rw [he, Reg.set_of_cls_i r v s hcls]
    exact .refl s
  · rw [he]
    obtain ⟨hw, -⟩ | ⟨hw, -⟩ | ⟨-, hmasked⟩ := writeCtrl_cases v s
    · rw [hw]
      exact .refl s
    · rw [hw]
      exact .refl s
    · exact absurd (htrig.symm.trans hmasked) (by decide)
  · rw [he]
    exact raiseIllegal_sameSetup s
  all_goals exact absurd (htrig.symm.trans hmasked) (by decide)

/-- Settles O59, by the event the step takes. -/
theorem configurationIsFixedWhileTheTriggerIsEnabled : Obligations.ConfigurationIsFixedWhileTheTriggerIsEnabled := by
  intro s t ht htrig
  obtain rfl | ⟨e, rest, -, ⟨i, hi⟩ | ⟨a, v, -, rfl⟩ | rfl | ⟨torn, host, telemetry, rfl⟩⟩ := step_cases ht
  · exact State.SameSetup.refl t
  · exact exec_sameSetup (s := { s with port := rest }) htrig hi
  · exact busWrite_sameSetup a v (s := { s with port := rest }) htrig
  · exact raiseIllegal_sameSetup { s with port := rest }
  · exact State.SameSetup.refl s

end Sys2Proof.Machine
end

section
/-!
PROOFS. The encoding (30_encoding.md R110 to R117): a word decodes to a command exactly when its three fields are the
command's, so each statement about words is one about the fields R113 lists. After it, the effects of an illegal word,
of a failed gate and of a trigger event.
-/
namespace Sys2Proof.Machine

/-! ## A word and its fields (R110) -/

theorem word_fieldsOf (w : W16) : (fieldsOf w).word = w := by
  calc (fieldsOf w).word
    _ = w.extractLsb' 8 8 ++ w.extractLsb' 0 8 :=
      congrArg (· ++ w.extractLsb' 0 8) (BitVec.extractLsb'_append_extractLsb'_eq_extractLsb' rfl)
    _ = w.extractLsb' 0 16 := BitVec.extractLsb'_append_extractLsb'_eq_extractLsb' rfl
    _ = w := BitVec.extractLsb'_eq_self

theorem fieldsOf_unit_toNat (w : W16) : (fieldsOf w).unit.toNat = w.toNat / 4096 := by
  simp only [fieldsOf, BitVec.extractLsb'_toNat, Nat.shiftRight_eq_div_pow]
  omega

theorem fieldsOf_rsv_toNat (w : W16) : (fieldsOf w).rsv.toNat = w.toNat / 256 % 16 := by
  simp only [fieldsOf, BitVec.extractLsb'_toNat, Nat.shiftRight_eq_div_pow, Nat.reducePow]

theorem fieldsOf_op_toNat (w : W16) : (fieldsOf w).op.toNat = w.toNat % 256 := by
  simp only [fieldsOf, BitVec.extractLsb'_toNat, Nat.shiftRight_zero, Nat.reducePow]

/-! ## The decoder reads the fields of a command, and no others (R113, R114) -/

/-- `commandOf` names a command for its own OP and UNIT only. -/
theorem commandOf_eq_some_iff (op unit : Nat) (i : Instr) :
    commandOf op unit = some i ↔ op = i.fields.op.toNat ∧ unit = i.fields.unit.toNat := by
  constructor
  · intro h
    unfold commandOf at h
    split at h <;> cases h <;> exact ⟨rfl, rfl⟩
  · rintro ⟨rfl, rfl⟩
    cases i <;> rfl

theorem fields_rsv (i : Instr) : i.fields.rsv = 0 := by cases i <;> rfl

/-- The fields of a command pass the check. -/
theorem check_fields (i : Instr) : i.fields.check = .ok () := by cases i <;> rfl

theorem encode_eq_word (i : Instr) : encode i = i.fields.word := by cases i <;> rfl

theorem rsv_of_check {f : WordFields} (h : f.check = .ok ()) : f.rsv = 0 := by
  unfold WordFields.check at h
  split at h
  · cases h
  · by_contra hrsv
    rw [if_pos hrsv] at h
    cases h

/-- Three fields are a command's when RSV is 0 and the other two name it. -/
theorem eq_fields_iff (f : WordFields) (i : Instr) :
    f = i.fields ↔ f.rsv = 0 ∧ commandOf f.op.toNat f.unit.toNat = some i := by
  constructor
  · rintro rfl
    exact ⟨fields_rsv i, (commandOf_eq_some_iff ..).mpr ⟨rfl, rfl⟩⟩
  · rintro ⟨hrsv, hcommand⟩
    obtain ⟨hop, hunit⟩ := (commandOf_eq_some_iff ..).mp hcommand
    calc f = ⟨f.unit, f.rsv, f.op⟩ := rfl
      _ = ⟨i.fields.unit, i.fields.rsv, i.fields.op⟩ := by
        rw [BitVec.eq_of_toNat_eq hunit, hrsv, ← fields_rsv i, BitVec.eq_of_toNat_eq hop]

/-- Both checks of the decoder: the three fields are legal, and they name the command. -/
theorem decode_eq_ok_iff (w : W16) (i : Instr) :
    decode w = .ok i ↔ (fieldsOf w).check = .ok ()
      ∧ commandOf (fieldsOf w).op.toNat (fieldsOf w).unit.toNat = some i := by
  simp only [decode]
  split
  next r hcheck => simp [hcheck]
  next hcheck =>
    simp only [hcheck, true_and]
    split
    next j hj => simp [hj]
    next hnone => simp [hnone]

/-- The decoder reads a command exactly from its three fields. -/
theorem decode_eq_ok_iff_fields (w : W16) (i : Instr) : decode w = .ok i ↔ fieldsOf w = i.fields := by
  rw [decode_eq_ok_iff]
  constructor
  · rintro ⟨hcheck, hcommand⟩
    exact (eq_fields_iff ..).mpr ⟨rsv_of_check hcheck, hcommand⟩
  · intro h
    obtain ⟨-, hcommand⟩ := (eq_fields_iff ..).mp h
    exact ⟨h ▸ check_fields i, hcommand⟩

/-- Settles O1: a word read as a command has that command's fields, and its fields are the word. -/
theorem decodeIsTheInverseOfEncode : Obligations.DecodeIsTheInverseOfEncode := by
  intro w i
  constructor
  · intro h
    calc w = (fieldsOf w).word := (word_fieldsOf w).symm
      _ = i.fields.word := by rw [(decode_eq_ok_iff_fields w i).mp h]
      _ = encode i := (encode_eq_word i).symm
  · rintro rfl
    exact decode_encode i

/-! ## The opcode map (R113, R114) -/

/-- The "OP" and "units" columns of R113. -/
def opcodeMap : List (Nat × List Nat) :=
  [(0x00, [0]), (0x01, [0]), (0x02, [0]), (0x03, [0]), (0x04, [0]), (0x05, [0]), (0x06, [0]), (0x07, [0]),
    (0x08, [0]), (0x10, [1, 2]), (0x11, [1, 2]), (0x12, [3]), (0x13, [3]), (0x14, [0]), (0x20, [4, 5]),
    (0x21, [4, 5]), (0x30, [0]), (0x31, [0]), (0x32, [0]), (0x33, [0]), (0x34, [0]), (0x35, [0]), (0x40, [0]),
    (0x41, [0]), (0x50, [0]), (0x51, [0]), (0x52, [0])]

/-- Each row of the map names a command for each of its units. -/
theorem exists_commandOf_of_mem_opcodeMap :
    ∀ row ∈ opcodeMap, ∀ unit ∈ row.2, ∃ i, commandOf row.1 unit = some i := by
  simp only [← Option.isSome_iff_exists]
  decide

/-- Each command has its row in the map. -/
theorem fields_mem_opcodeMap (i : Instr) :
    ∃ row ∈ opcodeMap, i.fields.op.toNat = row.1 ∧ i.fields.unit.toNat ∈ row.2 := by
  cases i <;> decide

theorem exists_commandOf_iff (op unit : Nat) :
    (∃ i, commandOf op unit = some i) ↔ ∃ units, unit ∈ units ∧ (op, units) ∈ opcodeMap := by
  constructor
  · rintro ⟨i, hi⟩
    obtain ⟨rfl, rfl⟩ := (commandOf_eq_some_iff ..).mp hi
    obtain ⟨⟨_, units⟩, hrow, rfl, hunit⟩ := fields_mem_opcodeMap i
    exact ⟨units, hunit, hrow⟩
  · rintro ⟨units, hunit, hrow⟩
    exact exists_commandOf_of_mem_opcodeMap _ hrow _ hunit

/-- A word is a command's exactly when RSV is 0 and its OP and UNIT stand in the map. -/
theorem exists_decode_iff (w : W16) :
    (∃ i, decode w = .ok i) ↔ (fieldsOf w).rsv = 0
      ∧ ∃ units, (fieldsOf w).unit.toNat ∈ units ∧ ((fieldsOf w).op.toNat, units) ∈ opcodeMap := by
  simp only [decode_eq_ok_iff_fields, eq_fields_iff, exists_and_left, exists_commandOf_iff]

/-- Settles O2: `exists_decode_iff`, with the fields read as quotients and remainders of the word. -/
theorem legalWordsAreTheOpcodeMap : Obligations.LegalWordsAreTheOpcodeMap := by
  intro w
  rw [exists_decode_iff, ← BitVec.toNat_inj, fieldsOf_rsv_toNat, fieldsOf_op_toNat, fieldsOf_unit_toNat]
  rfl

/-- Settles O3, word by word: a legal one is its command's encoding. -/
theorem sampleWordsDecode : Obligations.SampleWordsDecode :=
  ⟨decode_encode .nop, decode_encode .mulshr, decode_encode .mafUpdateAcavg, decode_encode .rmsReset,
    decode_encode .piUpdatePic, decode_encode .vloop, decode_encode .faultRecover, decode_encode .tick, rfl, rfl, rfl⟩

/-! ## NOP and the reserved OP values (R117) -/

/-- The OP values R117 lists as reserved. -/
abbrev ReservedOp (op : Nat) : Prop :=
  (0x09 ≤ op ∧ op ≤ 0x0F) ∨ (0x15 ≤ op ∧ op ≤ 0x1F) ∨ (0x22 ≤ op ∧ op ≤ 0x2F) ∨ (0x36 ≤ op ∧ op ≤ 0x3F)
    ∨ (0x42 ≤ op ∧ op ≤ 0x4F) ∨ 0x53 ≤ op

theorem not_reservedOp_of_mem_opcodeMap : ∀ row ∈ opcodeMap, ¬ ReservedOp row.1 := by decide

theorem exec_nop (s : State) : exec .nop s = .next s := gated_of_holds (g := .g0) (f := fun s => s) rfl

/-- Settles O10: a reserved OP has no row in the opcode map. -/
theorem nopHasNoEffectAndReservedOpsAreIllegal : Obligations.NopHasNoEffectAndReservedOpsAreIllegal := by
  refine ⟨decode_encode .nop, exec_nop, fun w hreserved i hi => ?_⟩
  obtain ⟨-, units, -, hrow⟩ := (exists_decode_iff w).mp ⟨i, hi⟩
  rw [fieldsOf_op_toNat] at hrow
  exact not_reservedOp_of_mem_opcodeMap _ hrow hreserved

/-! ## Gates (R116) -/

theorem holds_eq_gateCondition (g : Gate) (s : State) :
    g.holds s = gateCondition g s.ctrl.trigen s.status.configured := by
  cases g <;> simp [Gate.holds, gateCondition]

/-- Settles O9: every command runs under its gate, and a failed gate refuses it. -/
theorem failedGateOnlySetsIllegal : Obligations.FailedGateOnlySetsIllegal := by
  intro i s hgate
  obtain ⟨f, hf⟩ := exec_eq_gated i
  rw [hf]
  exact gated_of_not_holds ((holds_eq_gateCondition (gateOf i) s).trans hgate)

/-! ## Illegal words and trigger events on the port (R115, R122) -/

theorem portCommand_of_illegal {w : W16} (hw : ∀ i, decode w ≠ .ok i) (s : State) :
    portCommand w s = .next s.raiseIllegal := by
  cases hd : decode w with
  | ok i => exact absurd hd (hw i)
  | error r => simp only [portCommand, hd]

theorem portTrig_enabled {s : State} (h : s.ctrl.trigen = true) : portTrig s = exec .tick s := if_pos h

theorem portTrig_masked {s : State} (h : s.ctrl.trigen = false) : portTrig s = .next s := by
  simp only [portTrig, h, Bool.false_eq_true, if_false]

/-- Settles O4: the step takes the event, and the decoder names no command. -/
theorem illegalWordOnlySetsIllegal : Obligations.IllegalWordOnlySetsIllegal := by
  intro s w rest hport hw
  rw [step_cons hport]
  exact portCommand_of_illegal hw { s with port := rest }

/-- Settles O7, by TRIGEN: enabled, the trigger and the word 0x0052 both run TICK; masked, only the event is taken. -/
theorem triggerEventIsTickOrLost : Obligations.TriggerEventIsTickOrLost := by
  refine fun s rest hport => ⟨fun htrig => ?_, fun htrig => ?_⟩
  · calc step s
      _ = portTrig { s with port := rest } := step_cons hport
      _ = exec .tick { s with port := rest } := portTrig_enabled htrig
      _ = portCommand 0x0052 { s with port := rest } := (portCommand_of_decode (decode_encode .tick) _).symm
      _ = step { s with port := .command 0x0052 :: rest } :=
        (step_cons (s := { s with port := .command 0x0052 :: rest }) rfl).symm
  · rw [step_cons hport]
    exact portTrig_masked (s := { s with port := rest }) htrig

end Sys2Proof.Machine
end

section
/-!
PROOFS. The fixed-point primitives (40_fixed_point.md R141 to R148). All eight run under gate G1 and write RES alone, so
a rule of theirs is one equation of integers: the value of the word that RES takes.
-/
namespace Sys2Proof.Machine

/-! ## Gate G1 -/

theorem g1_holds_of_masked {s : State} (h : s.ctrl.trigen = false) : Gate.g1.holds s = true := by simp [Gate.holds, h]

theorem g1_fails_of_enabled {s : State} (h : s.ctrl.trigen = true) : Gate.g1.holds s = false := by simp [Gate.holds, h]

section
variable {i : Instr} {f : State → State} {s : State}

theorem refuses_of_g1 (hexec : ∀ s, exec i s = gated .g1 f s) (h : s.ctrl.trigen = true) : Refuses i s :=
  (hexec s).trans (gated_of_not_holds (g1_fails_of_enabled h))

theorem exec_of_g1 (hexec : ∀ s, exec i s = gated .g1 f s) (h : s.ctrl.trigen = false) : exec i s = .next (f s) :=
  (hexec s).trans (gated_of_holds (g1_holds_of_masked h))

/-- A command under G1 whose effect is to put one word in RES has the rule of that word's value (R140). -/
theorem primitiveRule_some {r : W32} {v : Int} (hexec : ∀ s, exec i s = gated .g1 f s) (hf : f s = s.setRes r)
    (hr : r.toInt = v) : PrimitiveRule i (encode i) s (some v) :=
  ⟨decode_encode i, refuses_of_g1 hexec, fun h => ⟨r, hr, (exec_of_g1 hexec h).trans (congrArg _ hf)⟩⟩

/-- A command under G1 whose effect is nothing has the rule of no value. -/
theorem primitiveRule_none (hexec : ∀ s, exec i s = gated .g1 f s) (hf : f s = s) :
    PrimitiveRule i (encode i) s none :=
  ⟨decode_encode i, refuses_of_g1 hexec, fun h => (exec_of_g1 hexec h).trans (congrArg _ hf)⟩

end

/-! ## The values RES takes -/

theorem opWhole_eq_toInt (r : W32) : opWhole r = r.toInt := rfl

theorem to32_saturated (v : Int) : (to32 (saturated v)).toInt = saturated v := by
  have h := saturated_range v
  exact to32_toInt (by omega) (by omega)

/-- A clamp of an int32 to two int32 bounds is an int32, whatever their order (R142). -/
theorem to32_clamp (x lo hi : W32) :
    (to32 (clamp x.toInt lo.toInt hi.toInt)).toInt = clamp x.toInt lo.toInt hi.toInt := by
  have hx := w32_toInt_range x
  have hlo := w32_toInt_range lo
  have hhi := w32_toInt_range hi
  apply to32_toInt <;> simp only [clamp] <;> omega

/-- A floored quotient of an int32 by a power of 2 is an int32 (R148). -/
theorem to32_floor (x : W32) (k : Nat) : (to32 (x.toInt / 2 ^ k)).toInt = x.toInt / 2 ^ k := by
  obtain ⟨hlo, hhi⟩ := w32_toInt_range x
  have hpow : (1 : Int) ≤ 2 ^ k := one_le_pow₀ (by decide)
  exact to32_toInt (Int.le_ediv_of_mul_le (by omega) (by linarith)) (Int.ediv_le_of_le_mul (by omega) (by linarith))

theorem mulQ_operands (a b : W32) :
    mulQ (opSigned a) (opSigned b) = saturated (low16Signed a * low16Signed b / 2 ^ 15) := by
  rw [mulQ, sat16_eq_saturated, shra_eq_floor, opSigned_low16, opSigned_low16]

theorem divQ_operands (a b : W32) :
    divQ (opSigned a) (opSigned b) = saturated ((low16Signed a * 2 ^ 15).tdiv (low16Signed b)) := by
  rw [divQ, sat16_eq_saturated, tdiv, opSigned_low16, opSigned_low16]
  rfl

/-! ## The eight rules -/

/-- Settles O11: a saturated value is an int32. -/
theorem sat16Saturates : Obligations.Sat16Saturates := by
  intro s
  refine primitiveRule_some (fun _ => rfl) rfl ?_
  rw [sat16_eq_saturated, opWhole_eq_toInt]
  exact to32_saturated _

/-- Settles O12: a clamp of int32 values is an int32, also where the bounds are inverted. -/
theorem clampLimitsToTheInterval : Obligations.ClampLimitsToTheInterval := by
  intro s
  refine primitiveRule_some (fun _ => rfl) rfl ?_
  rw [opWhole_eq_toInt, opWhole_eq_toInt, opWhole_eq_toInt]
  exact to32_clamp s.operands.a s.operands.b s.operands.c

/-- Settles O13: the Q15 product is saturated, so it is an int32. -/
theorem mulqIsTheSaturatedQ15Product : Obligations.MulqIsTheSaturatedQ15Product := by
  intro s
  refine primitiveRule_some (fun _ => rfl) rfl ?_
  rw [mulQ_operands]
  exact to32_saturated _

/-- Settles O14: `>>a` is the floor, and `wrap32` reads back as the balanced remainder modulo 2^32. -/
theorem mulshrIsTheWrappedScaledProduct : Obligations.MulshrIsTheWrappedScaledProduct := by
  intro s
  refine primitiveRule_some (fun _ => rfl) rfl ?_
  rw [wrap32_toInt, shra_eq_floor, shift6_eq, opWhole_eq_toInt, opWhole_eq_toInt]

/-- Settles O15, by the divisor: zero leaves RES, any other gives a saturated quotient. -/
theorem divqIsTheGuardedScaledQuotient : Obligations.DivqIsTheGuardedScaledQuotient := by
  intro s
  rw [← divQ_operands, ← opSigned_low16]
  split_ifs with hb
  · exact primitiveRule_none (fun _ => rfl) (if_neg (not_not_intro hb))
  · refine primitiveRule_some (fun _ => rfl) (if_pos hb) ?_
    rw [divQ_operands]
    exact to32_saturated _

/-- Settles O16, by the divisor: zero leaves RES, any other gives a wrapped quotient. -/
theorem divtIsTheGuardedTruncatingQuotient : Obligations.DivtIsTheGuardedTruncatingQuotient := by
  intro s
  split_ifs with hb
  · exact primitiveRule_none (fun _ => rfl) (if_neg (not_not_intro hb))
  · refine primitiveRule_some (fun _ => rfl) (if_pos hb) ?_
    rw [wrap32_toInt, tdiv, opWhole_eq_toInt, opWhole_eq_toInt]

/-- Settles O17: `wrap32` reads back as the balanced remainder modulo 2^32. -/
theorem accIsTheWrappedSum : Obligations.AccIsTheWrappedSum := by
  intro s
  refine primitiveRule_some (fun _ => rfl) rfl ?_
  rw [wrap32_toInt, opWhole_eq_toInt, opWhole_eq_toInt]

/-- Settles O18: `>>a` is the floor, and a floored quotient of an int32 is an int32. -/
theorem shraIsTheFlooredQuotient : Obligations.ShraIsTheFlooredQuotient := by
  intro s
  refine primitiveRule_some (fun _ => rfl) rfl ?_
  rw [shra_eq_floor, shift5_eq, opWhole_eq_toInt]
  exact to32_floor s.operands.a _

end Sys2Proof.Machine
end

section
/-!
PROOFS. The estimator commands, one step each (41_estimators.md R171 to R179): gate G2, one sample into each unit, the
resets, and RECT.
-/
namespace Sys2Proof.Machine

/-! ## Gate G2 -/

theorem g2_holds_iff (s : State) : Gate.g2.holds s = true ↔ s.debugReady := by simp [Gate.holds]

theorem exec_of_g2 {i : Instr} {f : State → State} {s : State} (hexec : exec i s = gated .g2 f s)
    (h : s.debugReady) : exec i s = .next (f s) :=
  hexec.trans (gated_of_holds ((g2_holds_iff s).mpr h))

/-- What all commands under G2 share: the word, and the refusal (30_encoding.md R113, R116). -/
theorem debugCommand_of_gateOf {i : Instr} (hi : gateOf i = .g2) (s : State) : DebugCommand i (encode i) s := by
  refine ⟨decode_encode i, fun h => failedGateOnlySetsIllegal i s ?_⟩
  rw [hi, ← holds_eq_gateCondition, ← Bool.not_eq_true, g2_holds_iff]
  exact h

/-! ## One step of each unit -/

theorem exec_mafUpdate (u : MafSel) {s : State} (h : s.debugReady) :
    exec u.update s = .next (mafUpdate u (low16Signed s.operands.a) s) := by
  rw [← opSigned_low16]
  cases u with
  | dcavg => exact exec_of_g2 (i := .mafUpdateDcavg) (f := fun s => mafUpdate .dcavg (opSigned s.operands.a) s) rfl h
  | acavg => exact exec_of_g2 (i := .mafUpdateAcavg) (f := fun s => mafUpdate .acavg (opSigned s.operands.a) s) rfl h

theorem exec_mafReset (u : MafSel) {s : State} (h : s.debugReady) : exec u.reset s = .next (mafReset u s) := by
  cases u with
  | dcavg => exact exec_of_g2 (i := .mafResetDcavg) rfl h
  | acavg => exact exec_of_g2 (i := .mafResetAcavg) rfl h

theorem exec_rmsUpdate {s : State} (h : s.debugReady) :
    exec .rmsUpdate s = .next (rmsUpdate (low16Unsigned s.operands.a) s) := by
  rw [← opUnsigned_low16]
  exact exec_of_g2 (f := fun s => rmsUpdate (opUnsigned s.operands.a) s) rfl h

theorem exec_rmsReset {s : State} (h : s.debugReady) : exec .rmsReset s = .next (rmsReset s) :=
  exec_of_g2 rfl h

/-- Settles O21: each reset clears its unit and its flag, and runs under G2. -/
theorem estimatorResetsClearTheUnit : Obligations.EstimatorResetsClearTheUnit := fun s =>
  ⟨⟨debugCommand_of_gateOf rfl s, exec_mafReset .dcavg⟩, ⟨debugCommand_of_gateOf rfl s, exec_mafReset .acavg⟩,
    debugCommand_of_gateOf rfl s, exec_rmsReset⟩

/-- Settles O20: under G2 the configuration is a legal one, so the window length is not 0 and R171 is the whole step. -/
theorem mafUpdateAddsOneSample : Obligations.MafUpdateAddsOneSample := by
  refine fun s hcfg => ⟨⟨debugCommand_of_gateOf rfl s, fun h => ?_⟩, debugCommand_of_gateOf rfl s, fun h => ?_⟩
  · obtain ⟨hn, -⟩ := Cfg.legal_spec (hcfg h.2)
    obtain ⟨m, rdy, hrule, he⟩ := mafUpdate_dcavg_rule (low16Signed s.operands.a) s hn
    exact ⟨m, rdy, hrule, (exec_mafUpdate .dcavg h).trans (congrArg _ he)⟩
  · obtain ⟨-, hn, -⟩ := Cfg.legal_spec (hcfg h.2)
    obtain ⟨m, rdy, hrule, he⟩ := mafUpdate_acavg_rule (low16Signed s.operands.a) s hn
    exact ⟨m, rdy, hrule, (exec_mafUpdate .acavg h).trans (congrArg _ he)⟩

/-- Settles O23: under G2 the configuration is a legal one, and a uint16 magnitude is in the domain of R175. -/
theorem rmsUpdateAddsOneSquare : Obligations.RmsUpdateAddsOneSquare := by
  refine fun s hcfg => ⟨debugCommand_of_gateOf rfl s, fun h => ?_⟩
  obtain ⟨-, -, hn, -⟩ := Cfg.legal_spec (hcfg h.2)
  obtain ⟨hlo, hhi⟩ := low16Unsigned_range s.operands.a
  obtain ⟨r, rdy, hrule, he⟩ := rmsUpdate_rule _ hlo hhi s hn
  exact ⟨r, rdy, hrule, (exec_rmsUpdate h).trans (congrArg _ he)⟩

/-! ## RECT (R179) -/

theorem low16Signed_sub_natAbs_le (a b : W32) : (low16Signed a - low16Signed b).natAbs ≤ 65535 := by
  have ha := low16Signed_range a
  have hb := low16Signed_range b
  omega

/-- Settles O19: the difference of two int16 values has a magnitude of at most 65535, which RES holds. -/
theorem rectIsTheExactMagnitude : Obligations.RectIsTheExactMagnitude := by
  intro s
  have hle := low16Signed_sub_natAbs_le s.operands.a s.operands.b
  refine ⟨primitiveRule_some (fun _ => rfl) rfl ?_, hle⟩
  rw [opSigned_low16, opSigned_low16, rectify]
  exact to32_toInt (by omega) (by omega)

end Sys2Proof.Machine
end

section
/-!
PROOFS. The estimators over a run of samples (41_estimators.md R173, R178). Without the widths of the registers both are
one averager over integers; `Averager.ofSamples` is its state after any samples, in terms of their windows, and each
unit's registers read as that state as long as nothing wraps.
-/
namespace Sys2Proof.Machine

/-! ## The windows of a list of samples -/

section
variable {α : Type}

/-- The most recent complete window of n samples; empty before the first. -/
def lastWindow (n : Nat) (xs : List α) : List α := (xs.take (xs.length / n * n)).drop ((xs.length / n - 1) * n)

/-- The samples after the most recent complete window. -/
def sinceWindow (n : Nat) (xs : List α) : List α := xs.drop (xs.length / n * n)

theorem succ_div_mod_of_full {k n : Nat} (h : k % n + 1 = n) : (k + 1) / n = k / n + 1 ∧ (k + 1) % n = 0 := by
  refine (Nat.div_mod_unique (by omega)).mpr ⟨?_, by omega⟩
  have hk := Nat.div_add_mod k n
  rw [Nat.mul_add]
  omega

theorem succ_div_mod_of_not_full {k n : Nat} (hn : 0 < n) (h : k % n + 1 ≠ n) :
    (k + 1) / n = k / n ∧ (k + 1) % n = k % n + 1 := by
  have hlt := Nat.mod_lt k hn
  have hk := Nat.div_add_mod k n
  exact (Nat.div_mod_unique hn).mpr ⟨by omega, by omega⟩

/-- The sample that fills a window: the window is what stood since the last one, and this sample. -/
theorem lastWindow_append_of_full {n : Nat} {xs : List α} (h : xs.length % n + 1 = n) (x : α) :
    lastWindow n (xs ++ [x]) = sinceWindow n xs ++ [x] := by
  obtain ⟨hdiv, hmod⟩ := succ_div_mod_of_full h
  have hall : (xs.length / n + 1) * n = (xs ++ [x]).length := by
    rw [← hdiv, List.length_append, List.length_singleton, Nat.div_mul_cancel (Nat.dvd_of_mod_eq_zero hmod)]
  simp only [lastWindow, sinceWindow]
  rw [List.length_append, List.length_singleton, hdiv, hall, List.take_length, Nat.add_sub_cancel,
    List.drop_append_of_le_length (Nat.div_mul_le_self ..)]

theorem sinceWindow_append_of_full {n : Nat} {xs : List α} (h : xs.length % n + 1 = n) (x : α) :
    sinceWindow n (xs ++ [x]) = [] := by
  obtain ⟨-, hmod⟩ := succ_div_mod_of_full h
  rw [sinceWindow, List.length_append, List.length_singleton, Nat.div_mul_cancel (Nat.dvd_of_mod_eq_zero hmod)]
  exact List.drop_eq_nil_of_le (by simp)

theorem lastWindow_append_of_not_full {n : Nat} (hn : 0 < n) {xs : List α} (h : xs.length % n + 1 ≠ n) (x : α) :
    lastWindow n (xs ++ [x]) = lastWindow n xs := by
  obtain ⟨hdiv, -⟩ := succ_div_mod_of_not_full hn h
  rw [lastWindow, List.length_append, List.length_singleton, hdiv,
    List.take_append_of_le_length (Nat.div_mul_le_self ..), lastWindow]

theorem sinceWindow_append_of_not_full {n : Nat} (hn : 0 < n) {xs : List α} (h : xs.length % n + 1 ≠ n) (x : α) :
    sinceWindow n (xs ++ [x]) = sinceWindow n xs ++ [x] := by
  obtain ⟨hdiv, -⟩ := succ_div_mod_of_not_full hn h
  rw [sinceWindow, List.length_append, List.length_singleton, hdiv,
    List.drop_append_of_le_length (Nat.div_mul_le_self ..), sinceWindow]

end

/-! ## The averager -/

/-- What the registers of an estimator and its ready flag stand for. -/
structure Averager where
  sum : Int
  cnt : Nat
  out : Int
  rdy : Bool

/-- One more value, with window length n: the emission at a full window, as in R171 and R175, exactly. -/
def Averager.next (n : Nat) (v : Int) (a : Averager) : Averager :=
  if a.cnt + 1 = n then { sum := 0, cnt := 0, out := (a.sum + v).tdiv n, rdy := true }
  else { a with sum := a.sum + v, cnt := a.cnt + 1 }

/-- The averager after the samples xs, each of value f, in terms of their windows (R173, R178). -/
def Averager.ofSamples {α : Type} (n : Nat) (f : α → Int) (xs : List α) : Averager where
  sum := ((sinceWindow n xs).map f).sum
  cnt := xs.length % n
  out := if xs.length / n = 0 then 0 else ((lastWindow n xs).map f).sum.tdiv n
  rdy := decide (n ≤ xs.length)

theorem Averager.ofSamples_nil {α : Type} {n : Nat} (hn : 0 < n) (f : α → Int) :
    ofSamples n f [] = { sum := 0, cnt := 0, out := 0, rdy := false } := by
  simp [ofSamples, sinceWindow, hn.ne']

/-- R173 for the averager: the windows of the samples describe it after each one. -/
theorem Averager.ofSamples_append {α : Type} {n : Nat} (hn : 0 < n) (f : α → Int) (xs : List α) (x : α) :
    ofSamples n f (xs ++ [x]) = (ofSamples n f xs).next n (f x) := by
  have hlen : (xs ++ [x]).length = xs.length + 1 := List.length_append
  by_cases h : xs.length % n + 1 = n
  · obtain ⟨hdiv, hmod⟩ := succ_div_mod_of_full h
    have hready : n ≤ xs.length + 1 := by
      have := Nat.mod_le xs.length n
      omega
    simp [ofSamples, next, h, hlen, hdiv, hmod, hready, sinceWindow_append_of_full h, lastWindow_append_of_full h]
  · obtain ⟨hdiv, hmod⟩ := succ_div_mod_of_not_full hn h
    have hready : n ≤ xs.length + 1 ↔ n ≤ xs.length := by
      refine ⟨fun hle => ?_, by omega⟩
      by_contra hlt
      rw [Nat.mod_eq_of_lt (by omega)] at h
      omega
    simp [ofSamples, next, h, hlen, hdiv, hmod, hready, sinceWindow_append_of_not_full hn h,
      lastWindow_append_of_not_full hn h]

/-! ## The registers as an averager -/

def MafUnit.averager (m : MafUnit) (rdy : Bool) : Averager := ⟨m.sum.toInt, m.cnt.toNat, m.out.toInt, rdy⟩

def RmsUnit.averager (r : RmsUnit) (rdy : Bool) : Averager := ⟨r.sum.toInt, r.cnt.toNat, r.out.toInt, rdy⟩

/-- The truncated mean of n values of -32768 to 32767 is an int16, so narrowing keeps it. -/
theorem mean_bmod {sum : Int} {n : Nat} (hn : 0 < n) (hlo : -(n * 32768) ≤ sum) (hhi : sum < n * 32768) :
    (sum.tdiv n).bmod 65536 = sum.tdiv n := by
  have hmean : -32768 ≤ sum.tdiv n ∧ sum.tdiv n ≤ 32767 := by
    obtain h | h := le_total 0 sum
    · have hlt : sum / n < 32768 := Int.ediv_lt_of_lt_mul (by omega) (by omega)
      rw [Int.tdiv_eq_ediv_of_nonneg h]
      have := Int.ediv_nonneg h (b := n) (by omega)
      omega
    · have hle : -sum / n ≤ 32768 := Int.ediv_le_of_le_mul (by omega) (by omega)
      have := Int.ediv_nonneg (a := -sum) (b := n) (by omega) (by omega)
      rw [← neg_neg sum, Int.neg_tdiv, Int.tdiv_eq_ediv_of_nonneg (by omega)]
      omega
  exact Int.bmod_eq_of_le (by omega) (by omega)

/-- Within the bounds of R49 neither the sum nor the count nor the average wraps. -/
theorem MafRule.averager {n : W16} {x : Int} {m m' : MafUnit} {rdy rdy' : Bool} (h : MafRule n x m m' rdy rdy')
    (hx : -32768 ≤ x ∧ x ≤ 32767) (hm : m.bounded n) : m'.averager rdy' = (m.averager rdy).next n.toNat x := by
  have hlt := n.isLt
  obtain ⟨hcnt, hsum⟩ := hm
  unfold MafRule at h
  dsimp only at h
  rw [Nat.mod_eq_of_lt (by omega), Int.bmod_eq_of_le (n := m.sum.toInt + x) (by omega) (by omega)] at h
  split_ifs at h with hlast
  · obtain ⟨hout, hrdy, hsum', hcnt'⟩ := h
    rw [mean_bmod (by omega) (by omega) (by omega)] at hout
    simp [MafUnit.averager, Averager.next, hlast, hout, hrdy, hsum', hcnt']
  · obtain ⟨hsum', hcnt', hout, hrdy⟩ := h
    simp [MafUnit.averager, Averager.next, hlast, hout, hrdy, hsum', hcnt']

/-- Within the bounds of R49 the RMS unit averages the squared terms exactly. -/
theorem RmsRule.averager {n : W16} {shift : Nat} {x : Int} {r r' : RmsUnit} {rdy rdy' : Bool}
    (h : RmsRule n shift x r r' rdy rdy') (hr : r.bounded n) :
    r'.averager rdy' = (r.averager rdy).next n.toNat (squaredTerm shift x) := by
  have hlt := n.isLt
  have hterm := squaredTerm_range shift x
  obtain ⟨hcnt, hlo, hhi, -⟩ := hr
  unfold RmsRule at h
  dsimp only at h
  rw [Nat.mod_eq_of_lt (by omega),
    Int.bmod_eq_of_le (n := r.sum.toInt + squaredTerm shift x) (by omega) (by omega)] at h
  obtain ⟨-, h⟩ := h
  split_ifs at h with hlast
  · obtain ⟨hout, hrdy, hsum', hcnt'⟩ := h
    rw [mean_bmod (by omega) (by omega) (by omega)] at hout
    simp [RmsUnit.averager, Averager.next, hlast, hout, hrdy, hsum', hcnt']
  · obtain ⟨hsum', hcnt', hout, hrdy⟩ := h
    simp [RmsUnit.averager, Averager.next, hlast, hout, hrdy, hsum', hcnt']

/-! ## A run of one command -/

/-- Bring a command its operand, as `feed` does. -/
def State.withOpa (x : W32) (s : State) : State := { s with operands := { s.operands with a := x } }

/-- A property of the operands fed so far and the state, kept by each command, holds after all of them. -/
theorem feed_induction {i : Instr} {P : List W32 → State → Prop}
    (hstep : ∀ fed x s, P fed s → ∃ t, exec i (s.withOpa x) = .next t ∧ P (fed ++ [x]) t) (xs : List W32) :
    ∀ fed s, P fed s → ∃ t, feed i xs s = .next t ∧ P (fed ++ xs) t := by
  induction xs with
  | nil => exact fun fed s h => ⟨s, rfl, by rwa [List.append_nil]⟩
  | cons x xs ih =>
    intro fed s h
    obtain ⟨u, hu, hPu⟩ := hstep fed x s h
    obtain ⟨t, ht, hPt⟩ := ih _ u hPu
    rw [List.append_assoc] at hPt
    refine ⟨t, ?_, hPt⟩
    rw [State.withOpa] at hu
    rw [feed, hu]
    exact ht

theorem ne_zero_of_one_le_toNat {n : W16} (h : 1 ≤ n.toNat) : n ≠ 0 := by
  rintro rfl
  exact absurd h (by decide)

/-! ## The moving averages (R173) -/

/-- `MafUpdate` of either unit is the rule on its registers and its flag, and changes nothing else. -/
theorem mafUpdate_rule (u : MafSel) (x : Int) (s : State) (hn : s.mafN u ≠ 0) :
    ∃ m rdy, MafRule (s.mafN u) x (s.maf u) m (s.mafReady u) rdy
      ∧ mafUpdate u x s = (s.setMaf u m).setMafReady u rdy := by
  cases u with
  | dcavg => exact mafUpdate_dcavg_rule x s hn
  | acavg => exact mafUpdate_acavg_rule x s hn

@[simp] theorem State.mafReady_setMafReady (u : MafSel) (b : Bool) (s : State) :
    (s.setMafReady u b).mafReady u = b := by cases u <;> rfl

theorem State.debugReady_setMaf {u : MafSel} {m : MafUnit} {b : Bool} {s : State} :
    ((s.setMaf u m).setMafReady u b).debugReady ↔ s.debugReady := by
  cases u <;> exact Iff.rfl

/-- The unit after the operands fed to it since its reset, with window length n. -/
def MafRun (u : MafSel) (n : W16) (fed : List W32) (s : State) : Prop :=
  s.debugReady ∧ s.mafN u = n ∧ (s.maf u).bounded n
    ∧ (s.maf u).averager (s.mafReady u) = .ofSamples n.toNat low16Signed fed

theorem mafRun_mafReset (u : MafSel) {n : W16} (hn : 1 ≤ n.toNat) {s : State} (h : s.debugReady) (hs : s.mafN u = n) :
    MafRun u n [] (mafReset u s) := by
  have hzero := MafUnit.bounded_zero (ne_zero_of_one_le_toNat hn)
  refine ⟨?_, ?_, ?_, ?_⟩
  · exact State.debugReady_setMaf.mpr h
  · simpa [mafReset] using hs
  · rwa [mafReset, State.maf_setMafReady, State.maf_setMaf]
  · rw [Averager.ofSamples_nil hn]
    simp [mafReset, MafUnit.averager, MafUnit.zero]

theorem mafRun_step {u : MafSel} {n : W16} (hn : 1 ≤ n.toNat) (fed : List W32) (x : W32) (s : State)
    (h : MafRun u n fed s) : ∃ t, exec u.update (s.withOpa x) = .next t ∧ MafRun u n (fed ++ [x]) t := by
  obtain ⟨hready, rfl, hbound, havg⟩ := h
  have hne := ne_zero_of_one_le_toNat hn
  have hx := low16Signed_range x
  have hN : (s.withOpa x).mafN u = s.mafN u := by cases u <;> rfl
  have hmaf : (s.withOpa x).maf u = s.maf u := by cases u <;> rfl
  have hrdy : (s.withOpa x).mafReady u = s.mafReady u := by cases u <;> rfl
  obtain ⟨m, rdy, hrule, he⟩ := mafUpdate_rule u (low16Signed x) (s.withOpa x) (hN ▸ hne)
  rw [hN, hmaf, hrdy] at hrule
  refine ⟨_, (exec_mafUpdate u (s := s.withOpa x) hready).trans (congrArg _ he), ?_, ?_, ?_, ?_⟩
  · exact State.debugReady_setMaf.mpr hready
  · simpa using hN
  · rw [State.maf_setMafReady, State.maf_setMaf]
    exact hrule.bounded hne hx hbound
  · rw [Averager.ofSamples_append hn, ← havg, ← hrule.averager hx hbound]
    simp

/-- Settles O22: the reset starts a run, each command continues it, and a run's registers read as the averager. -/
theorem mafAveragesTheLastCompleteWindow : Obligations.MafAveragesTheLastCompleteWindow := by
  intro u s xs hready hn
  obtain ⟨t, ht, -, -, ⟨hcnt, hsum⟩, havg⟩ :=
    feed_induction (mafRun_step hn) xs [] _ (mafRun_mafReset u hn hready rfl)
  have hlt := (s.mafN u).isLt
  exact ⟨_, t, exec_mafReset u hready, ht, congrArg Averager.out havg, congrArg Averager.rdy havg,
    congrArg Averager.cnt havg, congrArg Averager.sum havg, hcnt, hsum, by omega⟩

/-! ## The mean square (R178) -/

/-- The RMS unit after the operands fed to it since its reset, with window length n. -/
def RmsRun (n : W16) (shift : Nat) (fed : List W32) (s : State) : Prop :=
  s.debugReady ∧ s.cfg.rmsN = n ∧ s.params.rmsSqShift.val = shift ∧ s.rms.bounded n
    ∧ s.rms.averager s.status.rmsrdy = .ofSamples n.toNat (fun x => squaredTerm shift (low16Unsigned x)) fed

theorem rmsRun_rmsReset {s : State} (hn : 1 ≤ s.cfg.rmsN.toNat) (h : s.debugReady) :
    RmsRun s.cfg.rmsN s.params.rmsSqShift.val [] (rmsReset s) := by
  refine ⟨h, rfl, rfl, RmsUnit.bounded_zero (ne_zero_of_one_le_toNat hn), ?_⟩
  rw [Averager.ofSamples_nil hn]
  rfl

theorem rmsRun_step {n : W16} {shift : Nat} (hn : 1 ≤ n.toNat) (fed : List W32) (x : W32) (s : State)
    (h : RmsRun n shift fed s) : ∃ t, exec .rmsUpdate (s.withOpa x) = .next t ∧ RmsRun n shift (fed ++ [x]) t := by
  obtain ⟨hready, rfl, rfl, hbound, havg⟩ := h
  have hne := ne_zero_of_one_le_toNat hn
  obtain ⟨hlo, hhi⟩ := low16Unsigned_range x
  obtain ⟨r, rdy, hrule, he⟩ := rmsUpdate_rule (low16Unsigned x) hlo hhi (s.withOpa x) hne
  refine ⟨_, (exec_rmsUpdate (s := s.withOpa x) hready).trans (congrArg _ he), hready, rfl, rfl,
    hrule.bounded hne hbound, ?_⟩
  rw [Averager.ofSamples_append hn, ← havg]
  exact hrule.averager hbound

/-- Settles O24: as for the moving averages, with the squared terms as the values. -/
theorem rmsIsTheMeanSquareOfTheLastCompleteWindow : Obligations.RmsIsTheMeanSquareOfTheLastCompleteWindow := by
  intro s xs hready hn
  obtain ⟨t, ht, -, -, -, ⟨hcnt, hlo, hhi, hout⟩, havg⟩ :=
    feed_induction (rmsRun_step hn) xs [] _ (rmsRun_rmsReset hn hready)
  have hlt := s.cfg.rmsN.isLt
  exact ⟨_, t, exec_rmsReset hready, ht, congrArg Averager.out havg, ⟨hout, (w16_toInt_range _).2⟩,
    congrArg Averager.rdy havg, congrArg Averager.cnt havg, ⟨hlo, hhi⟩, by omega⟩

end Sys2Proof.Machine
end

section
/-!
PROOFS. The PI commands, one step each (42_pi.md R202 to R205, R209): gate G2, the update with the laws any algorithm
obeys, and the reset.
-/
namespace Sys2Proof.Machine

/-! ## The commands past gate G2 -/

theorem to16_opSigned_toInt (r : W32) : (to16 (opSigned r)).toInt = low16Signed r := by
  obtain ⟨hlo, hhi⟩ := low16Signed_range r
  rw [opSigned_low16, to16_toInt hlo hhi]

/-- A PI_UPDATE command replaces its unit by one that obeys the rule, with the values every other PI_UPDATE command
gives on equal arguments, and changes nothing else (42_pi.md R202, R203). -/
theorem exec_piUpdate_rule (p : PiSel) {s : State} (h : s.debugReady) :
    ∃ u, PiRule s.params.piUpdate (s.piCfg p) (low16Signed s.operands.a) (s.piCfg p).ki.toInt (s.pi p) u
      ∧ AgreesWithPiUpdate s.params.piUpdate (s.piCfg p) (low16Signed s.operands.a) (s.piCfg p).ki.toInt (s.pi p) u
      ∧ exec p.update s = .next (s.setPi p u) := by
  rw [← to16_opSigned_toInt]
  exact ⟨_, piUpdate_rule _ _ _ _ _, piAlgorithm_agrees _ _ _ _ _, exec_piUpdate p s h⟩

theorem exec_piReset (p : PiSel) {s : State} (h : s.debugReady) : exec p.reset s = .next (piReset p s) := by
  cases p with
  | piv => exact exec_of_g2 (i := .piResetPiv) rfl h
  | pic => exact exec_of_g2 (i := .piResetPic) rfl h

/-- Settles O27: the reset clears the integrator of its unit, and runs under G2. -/
theorem piResetZeroesTheIntegrator : Obligations.PiResetZeroesTheIntegrator := fun s =>
  ⟨⟨debugCommand_of_gateOf rfl s, exec_piReset .piv⟩, debugCommand_of_gateOf rfl s, exec_piReset .pic⟩

/-- Settles O25: the rule of an update, with the default algorithm. -/
theorem piUpdateIsTheClampedParallelForm : Obligations.PiUpdateIsTheClampedParallelForm := by
  refine fun s halg => ⟨⟨debugCommand_of_gateOf rfl s, fun h => ?_⟩, debugCommand_of_gateOf rfl s, fun h => ?_⟩
  · obtain ⟨u, hrule, -, hexec⟩ := exec_piUpdate_rule .piv h
    exact ⟨u, halg ▸ hrule, hexec⟩
  · obtain ⟨u, hrule, -, hexec⟩ := exec_piUpdate_rule .pic h
    exact ⟨u, halg ▸ hrule, hexec⟩

/-! ## What the rule says of the clamps (42_pi.md R203 law 3, R209) -/

section
variable {alg : PiAlgorithm} {c : PiCfg} {e ki : Int} {u u' : PiUnit}

theorem PiRule.out_range (h : PiRule alg c e ki u u') (hc : c.min.toInt ≤ c.max.toInt) :
    c.min.toInt ≤ u'.out.toInt ∧ u'.out.toInt ≤ c.max.toInt := by
  obtain ⟨-, -, h⟩ := h
  cases alg with
  | default =>
    obtain ⟨-, hout⟩ := h
    omega
  | anyLawful => exact h.2 hc

theorem PiRule.integ_range (h : PiRule .default c e ki u u') (hc : c.min.toInt ≤ c.max.toInt) :
    c.min.toInt ≤ u'.integ.toInt ∧ u'.integ.toInt ≤ c.max.toInt := by
  obtain ⟨-, -, hinteg, -⟩ := h
  omega

/-- With the clamps inverted the lower one wins: it is the last the clamp applies. -/
theorem PiRule.out_of_inverted (h : PiRule .default c e ki u u') (hc : c.max.toInt < c.min.toInt) : u'.out = c.min := by
  obtain ⟨-, -, -, hout⟩ := h
  exact BitVec.eq_of_toInt_eq (by omega)

end

/-- Settles O26: each law is read off the rule of the update; law 4 is its agreement with every other update. -/
theorem piUpdateObeysTheLaws : Obligations.PiUpdateObeysTheLaws := by
  intro p s h
  obtain ⟨⟨ref, err, integ, out⟩, hrule, hagrees, hexec⟩ := exec_piUpdate_rule p h
  have ⟨href, herr, _⟩ := hrule
  obtain rfl : ref = (s.pi p).ref := href
  refine ⟨err, integ, out, hexec, herr, hrule.out_range, fun halg => ?_, fun halg => ?_, ?_⟩
  · rw [halg] at hrule
    exact hrule.integ_range
  · rw [halg] at hrule
    exact hrule.out_of_inverted
  · intro q r hr halg hinteg he hcfg
    exact hagrees q r hr halg hinteg he (by rw [hcfg]) (by rw [hcfg])

end Sys2Proof.Machine
end

section
/-!
PROOFS. Where the integrators change (42_pi.md R207): every operation keeps the integrator of a unit but the points the
rule lists. The argument is one for both units; they differ in their loop alone.
-/
namespace Sys2Proof.Machine

/-- The command of a unit's own loop (43_control.md R232, R237). -/
def PiSel.loop : PiSel → Instr
  | .piv => .vloop
  | .pic => .iloop

/-- The integral accumulator `p_INT`. -/
def State.integ (p : PiSel) (s : State) : W32 := (s.pi p).integ

/-- The points of R207 for one unit: command i may take s to t with another integrator. -/
def IntegratorPoint (p : PiSel) (i : Instr) (s t : State) : Prop :=
  i = p.update ∨ (i = p.reset ∧ t.integ p = 0) ∨ i = p.loop ∨ (i = .init ∧ t.integ p = 0)
    ∨ (i = .tick ∧ s.status.state.toNat = 0 ∧ t.integ p = 0)
    ∨ (i = .tick ∧ s.status.state.toNat = 3 ∧ t.status.state.toNat = 3)
    ∨ (i = .tick ∧ s.status.state.toNat = 4 ∧ t.status.state.toNat = 3 ∧ t.integ p = 0)

/-! ## The integrator after each operation -/

theorem integ_of_units_eq {s t : State} (hpiv : t.piv = s.piv) (hpic : t.pic = s.pic) (p : PiSel) :
    t.integ p = s.integ p := by
  cases p with
  | piv => exact congrArg PiUnit.integ hpiv
  | pic => exact congrArg PiUnit.integ hpic

/-- A step of the ramp writes PIV_REF, not the integrator (43_control.md R231). -/
theorem softStart_integ (p : PiSel) (s : State) : (softStart s).integ p = s.integ p := by
  unfold softStart
  split_ifs <;> cases p <;> rfl

theorem initCommand_integ (p : PiSel) (s : State) :
    (initCommand s).integ p = s.integ p ∨ (initCommand s).integ p = 0 := by
  unfold initCommand
  split_ifs
  · exact .inr (by cases p <;> rfl)
  · exact .inl (by cases p <;> rfl)

/-! ## The handlers of a TICK -/

theorem stateInit_integ (p : PiSel) (s : State) : (stateInit s).integ p = 0 := by
  rw [stateInit_eq]
  cases p <;> rfl

/-- The exit from OFFSET_MEAS writes PIV_REF, not the integrator (45_sequencer.md R298). -/
theorem stateOffsetMeas_integ (p : PiSel) (s : State) : (stateOffsetMeas s).integ p = s.integ p := by
  rw [stateOffsetMeas_eq, calUpdate_eq]
  split_ifs <;> cases p <;> rfl

theorem stateWait1Cycle_integ (p : PiSel) (s : State) : (stateWait1Cycle s).integ p = s.integ p :=
  integ_of_units_eq (stateWait1Cycle_piv s) (stateWait1Cycle_pic s) p

/-- CTRL_RUN with a fault keeps both integrators; without one it runs the loops, which stay in CTRL_RUN
(45_sequencer.md R300). -/
theorem stateCtrlRun_integ (p : PiSel) (s : State) :
    (stateCtrlRun s).integ p = s.integ p ∨ (stateCtrlRun s).status.state = s.status.state := by
  rw [stateCtrlRun_eq]
  split_ifs
  · exact .inl (integ_of_units_eq (iCorr_piv s) (iCorr_pic s) p)
  · exact .inr (by simp)

/-- FAULT keeps both integrators until its return, which clears them (45_sequencer.md R301, 60_exceptions.md R333). -/
theorem stateFault_integ (p : PiSel) (s : State) :
    (stateFault s).integ p = s.integ p ∨ ((stateFault s).status.state = 3 ∧ (stateFault s).integ p = 0) := by
  rw [stateFault_eq]
  split_ifs
  · exact .inr ⟨rfl, by cases p <;> rfl⟩
  · exact .inl (by cases p <;> rfl)

theorem Phase.code_of_ofCode {c : BitVec 3} {ph : Phase} : Phase.ofCode c = some ph → c = ph.code := by
  revert c ph
  decide

/-- A TICK keeps an integrator but in INIT, in CTRL_RUN without a fault, and at the return from FAULT. -/
theorem tickCommand_integ (p : PiSel) (s : State) :
    (tickCommand s).integ p = s.integ p ∨ IntegratorPoint p .tick s (tickCommand s) := by
  unfold tickCommand
  split
  · exact .inl (integ_of_units_eq rfl rfl p)
  next ph hph =>
    have hcode := Phase.code_of_ofCode hph
    have hinteg : (faultTrip (estim s.latch)).integ p = s.integ p := integ_of_units_eq (by simp) (by simp) p
    have hstate : (faultTrip (estim s.latch)).status.state = s.status.state := by simp
    rw [← hinteg]
    generalize faultTrip (estim s.latch) = m at hstate
    unfold IntegratorPoint
    cases ph with
    | init => simp [dispatch, hcode, stateInit_integ, Phase.code]
    | offsetMeas => exact .inl (stateOffsetMeas_integ p m)
    | wait1Cycle => exact .inl (stateWait1Cycle_integ p m)
    | ctrlRun =>
      refine (stateCtrlRun_integ p m).imp_right fun hsame => ?_
      simp [dispatch, hsame, hstate, hcode, Phase.code]
    | fault =>
      refine (stateFault_integ p m).imp_right fun ⟨hrun, hzero⟩ => ?_
      simp [dispatch, hrun, hzero, hcode, Phase.code]

/-! ## A command -/

/-- A refusal keeps both integrators, so only the effect past the gate matters. -/
theorem gated_integ {p : PiSel} {i : Instr} {g : Gate} {f : State → State} {s t : State}
    (ht : gated g f s = .next t) (hf : (f s).integ p = s.integ p ∨ IntegratorPoint p i s (f s)) :
    t.integ p = s.integ p ∨ IntegratorPoint p i s t :=
  gated_elim (P := fun t => t.integ p = s.integ p ∨ IntegratorPoint p i s t) ht
    (.inl (integ_of_units_eq rfl rfl p)) fun _ => hf

/-- R207 for one unit, command by command. -/
theorem exec_integ (p : PiSel) {i : Instr} {s t : State} (ht : exec i s = .next t) :
    t.integ p = s.integ p ∨ IntegratorPoint p i s t := by
  cases i with
  | nop | sat16 | clamp | mulq | mulshr | divq | divt | acc | shra | rect =>
    obtain rfl | rfl | ⟨v, rfl⟩ := exec_primitive (by decide) ht <;> exact .inl (integ_of_units_eq rfl rfl p)
  | mafUpdateDcavg | mafUpdateAcavg =>
    simp only [exec, execMafUpdateDcavg, execMafUpdateAcavg] at ht
    exact gated_integ ht (.inl (integ_of_units_eq (by simp) (by simp) p))
  | mafResetDcavg | mafResetAcavg | rmsUpdate | rmsReset | iref | boostd | icorr | faultTrip | faultRecover | estim =>
    exact gated_integ (g := .g2) ht (.inl (integ_of_units_eq (by simp) (by simp) p))
  | softstart => exact gated_integ (g := .g2) ht (.inl (softStart_integ p s))
  | piUpdatePiv =>
    simp only [exec, execPiUpdatePiv] at ht
    cases p with
    | piv => exact .inr (.inl rfl)
    | pic => exact gated_integ ht (.inl (congrArg PiUnit.integ (piUpdate_piv_pic _ _ s)))
  | piUpdatePic =>
    simp only [exec, execPiUpdatePic] at ht
    cases p with
    | piv => exact gated_integ ht (.inl (congrArg PiUnit.integ (piUpdate_pic_piv _ _ s)))
    | pic => exact .inr (.inl rfl)
  | piResetPiv =>
    cases p with
    | piv => exact gated_integ (g := .g2) ht (.inr (.inr (.inl ⟨rfl, rfl⟩)))
    | pic => exact gated_integ (g := .g2) ht (.inl rfl)
  | piResetPic =>
    cases p with
    | piv => exact gated_integ (g := .g2) ht (.inl rfl)
    | pic => exact gated_integ (g := .g2) ht (.inr (.inr (.inl ⟨rfl, rfl⟩)))
  | vloop =>
    cases p with
    | piv => exact .inr (.inr (.inr (.inl rfl)))
    | pic => exact gated_integ (g := .g2) ht (.inl (congrArg PiUnit.integ (vLoop_pic s)))
  | iloop =>
    cases p with
    | piv => exact gated_integ (g := .g2) ht (.inl (congrArg PiUnit.integ (iLoop_piv s)))
    | pic => exact .inr (.inr (.inr (.inl rfl)))
  | init =>
    refine gated_integ (g := .g3) ht ((initCommand_integ p s).imp_right fun hzero => ?_)
    exact .inr (.inr (.inr (.inl ⟨rfl, hzero⟩)))
  | tick => exact gated_integ (g := .g4) ht (tickCommand_integ p s)

/-- Settles O28: R207 for each of the two units. -/
theorem integratorsChangeOnlyAtTheListedPoints : Obligations.IntegratorsChangeOnlyAtTheListedPoints :=
  fun _ _ _ ht => ⟨(exec_integ .piv ht).resolve_left, (exec_integ .pic ht).resolve_left⟩

end Sys2Proof.Machine
end

section
/-!
PROOFS. The control-loop commands, one step each (43_control.md R231 to R242): gate G2, and the rule of the operation
with the law it implies.
-/
namespace Sys2Proof.Machine

/-- A command under G2 that runs the operation f: its word, its refusal, and whatever a rule says of f. -/
theorem debugCommand_runs {i : Instr} {f : State → State} {P : State → Prop} {s : State} (hi : gateOf i = .g2)
    (hexec : exec i s = gated .g2 f s) (hf : s.debugReady → P (f s)) :
    DebugCommand i (encode i) s ∧ (s.debugReady → ∃ t, exec i s = .next t ∧ P t) :=
  ⟨debugCommand_of_gateOf hi s, fun h => ⟨f s, exec_of_g2 hexec h, hf h⟩⟩

/-- Settles O33: the operation of ICORR is R236. -/
theorem icorrSubtractsTheSensorOffset : Obligations.IcorrSubtractsTheSensorOffset := fun s =>
  debugCommand_runs rfl rfl fun _ => iCorr_rule s

/-- Settles O32: the operation of BOOSTD is R235. -/
theorem boostdIsTheGuardedDutyRatio : Obligations.BoostdIsTheGuardedDutyRatio := fun s =>
  debugCommand_runs rfl rfl fun _ => boostD_rule s

/-- Settles O30: the operation of VLOOP is R232 with the gain of R233. -/
theorem vloopRunsThePiEveryDividedCall : Obligations.VloopRunsThePiEveryDividedCall := fun s _ =>
  debugCommand_runs rfl rfl fun _ => vLoop_rule s

/-- Settles O34: the operation of ILOOP is R237 with the duty of R238 and the override of R239. -/
theorem iloopComputesCurrentAndDuty : Obligations.IloopComputesCurrentAndDuty := fun s _ =>
  debugCommand_runs rfl rfl fun _ => iLoop_rule s

/-- The reference law (R242): the last thing IREF does is to clamp. -/
theorem IRefRule.iref_range {s t : State} (h : IRefRule s t) : 0 ≤ t.scal.iref.toInt ∧ t.scal.iref.toInt ≤ 32735 := by
  obtain ⟨r, hr, rfl⟩ := h
  dsimp only
  omega

/-- Settles O31: the operation of IREF is R234, which implies R242. -/
theorem irefIsTheClampedShapedReference : Obligations.IrefIsTheClampedShapedReference := fun s =>
  debugCommand_runs rfl rfl fun _ => ⟨iRef_rule s, (iRef_rule s).iref_range⟩

/-- The ramp law (R241): with a step that is not negative the reference never falls, and it never passes its
setpoint. -/
theorem SoftStartRule.ref_range {s t : State} (h : SoftStartRule s t) (hstep : 0 ≤ s.cfg.ssStep.toInt) :
    s.piv.ref.toInt ≤ t.piv.ref.toInt
      ∧ (s.piv.ref.toInt ≤ s.cfg.vrefFinal.toInt → t.piv.ref.toInt ≤ s.cfg.vrefFinal.toInt) := by
  unfold SoftStartRule at h
  split_ifs at h
  · obtain ⟨c, -, rfl⟩ := h
    exact ⟨le_rfl, id⟩
  · obtain ⟨r, hr, rfl⟩ := h
    dsimp only
    omega
  · rw [h]
    exact ⟨le_rfl, id⟩

/-- Settles O29: under G2 the configuration is a legal one, so SS_STEP is not negative and R231 implies R241. -/
theorem softstartStepsTheRamp : Obligations.SoftstartStepsTheRamp := fun s hcfg =>
  debugCommand_runs rfl rfl fun h => by
    obtain ⟨-, -, -, hstep, -⟩ := Cfg.legal_spec (hcfg h.2)
    have hrule := softStart_rule s hstep
    exact ⟨hrule, hrule.ref_range hstep⟩

end Sys2Proof.Machine
end

section
/-!
PROOFS. The duty law of a TICK (43_control.md R240, 45_sequencer.md R305): what each state handler leaves in DUTY.
-/
namespace Sys2Proof.Machine

/-- PIV_OUT is below VOUT_MINPK (43_control.md R239). -/
def State.InStandby (s : State) : Prop := s.piv.out.toInt < s.cfg.voutMinpk.toInt

/-- The duty that R238 converts from the PIC_OUT of a state. -/
def State.convertedDuty (s : State) : Int :=
  max (s.cfg.dutyMin.toNat : Int) (min (s.pic.out.toInt * s.cfg.period.toNat / 2 ^ 15) s.cfg.dutyMax.toNat)

theorem State.convertedDuty_range {s : State} (h : s.cfg.dutyMin.toNat ≤ s.cfg.dutyMax.toNat) :
    (s.cfg.dutyMin.toNat : Int) ≤ s.convertedDuty ∧ s.convertedDuty ≤ s.cfg.dutyMax.toNat := by
  unfold State.convertedDuty
  omega

/-! ## CTRL_RUN -/

/-- The current loop leaves duty 0 in standby and else the converted one; what follows the conversion changes neither
PIC_OUT nor PIV_OUT (R238, R239). -/
theorem ILoopRule.duty {s t : State} (h : ILoopRule s t) :
    (t.InStandby → t.duty = 0) ∧ (¬ t.InStandby → (t.duty.toNat : Int) = t.convertedDuty) := by
  obtain ⟨il, iavg, duty, u, -, -, -, hduty, he⟩ := h
  by_cases hstandby : s.piv.out.toInt < s.cfg.voutMinpk.toInt
  · rw [if_pos hstandby] at he
    subst he
    exact ⟨fun _ => rfl, fun h => absurd hstandby h⟩
  · rw [if_neg hstandby] at he
    subst he
    exact ⟨fun h => absurd h hstandby, fun _ => hduty⟩

/-- CTRL_RUN leaves duty 0 on the fault entry and in standby, and else the converted one (45_sequencer.md R300). -/
theorem stateCtrlRun_duty (s : State) :
    ((stateCtrlRun s).fault ≠ 0 ∨ (stateCtrlRun s).InStandby → (stateCtrlRun s).duty = 0)
      ∧ ((stateCtrlRun s).fault = 0 → ¬ (stateCtrlRun s).InStandby →
          ((stateCtrlRun s).duty.toNat : Int) = (stateCtrlRun s).convertedDuty) := by
  rw [stateCtrlRun_fault, stateCtrlRun_eq]
  split_ifs with hfault
  · exact ⟨fun _ => rfl, fun h => absurd h hfault⟩
  · obtain ⟨hstandby, hconverted⟩ := (iLoop_rule (boostD (iRef (vLoop (softStart (iCorr s)))))).duty
    exact ⟨fun h => hstandby (h.resolve_left hfault), fun _ => hconverted⟩

theorem stateCtrlRun_dutyLegal {s : State}
    (hlim : (stateCtrlRun s).cfg.dutyMin.toNat ≤ (stateCtrlRun s).cfg.dutyMax.toNat) : (stateCtrlRun s).dutyLegal := by
  obtain ⟨hcleared, hconverted⟩ := stateCtrlRun_duty s
  by_cases hoff : (stateCtrlRun s).fault ≠ 0 ∨ (stateCtrlRun s).InStandby
  · exact .inl (hcleared hoff)
  · obtain ⟨hfault, hrunning⟩ := not_or.mp hoff
    have heq := hconverted (not_not.mp hfault) hrunning
    have hrange := State.convertedDuty_range hlim
    exact .inr (by omega)

/-! ## The other states -/

theorem stateInit_duty (s : State) : (stateInit s).duty = 0 := by rw [stateInit_eq]

theorem stateFault_duty (s : State) : (stateFault s).duty = 0 := by
  rw [stateFault_eq]
  split_ifs <;> rfl

/-- Outside CTRL_RUN the duty ends at 0: INIT and FAULT clear it, and the two states between keep the 0 they find. -/
theorem dispatch_duty_eq_zero {p : Phase} {s : State} (hp : p.code.toNat ≠ 3)
    (hzero : p.code.toNat = 1 ∨ p.code.toNat = 2 → s.duty = 0) : (dispatch p s).duty = 0 := by
  cases p with
  | init => exact stateInit_duty s
  | offsetMeas => exact (stateOffsetMeas_duty s).trans (hzero (.inl rfl))
  | wait1Cycle => exact (stateWait1Cycle_duty s).trans (hzero (.inr rfl))
  | ctrlRun => exact absurd rfl hp
  | fault => exact stateFault_duty s

/-! ## TICK -/

theorem Phase.eq_ctrlRun {p : Phase} (h : p.code.toNat = 3) : p = .ctrlRun := by
  cases p <;> simp [Phase.code] at h ⊢

/-- Settles O48: a TICK runs the handler of its state on a measured state m, which has the duty and the configuration
of the state before. -/
theorem dutyIsZeroOrWithinItsLimits : Obligations.DutyIsZeroOrWithinItsLimits := by
  intro s hconf hlegal hphase hzero
  obtain ⟨-, -, -, -, hlim, -⟩ := Cfg.legal_spec hlegal
  obtain ⟨p, hp, hcode⟩ := Phase.of_le_four hphase
  have hcfg : (dispatch p (faultTrip (estim s.latch))).cfg = s.cfg := by simp
  have hduty : (faultTrip (estim s.latch)).duty = s.duty := by simp
  refine ⟨_, exec_tick_of_phase hconf hp, ?_⟩
  rw [hcode, ← hduty] at hzero
  rw [hcode, ← hcfg]
  rw [← hcfg] at hlim
  generalize faultTrip (estim s.latch) = m at hzero hlim ⊢
  by_cases hrun : p.code.toNat = 3
  · obtain rfl := Phase.eq_ctrlRun hrun
    obtain ⟨hcleared, hconverted⟩ := stateCtrlRun_duty m
    exact ⟨stateCtrlRun_dutyLegal hlim, fun h => absurd hrun h, fun _ => hcleared, fun _ => hconverted⟩
  · have h0 := dispatch_duty_eq_zero hrun hzero
    exact ⟨.inl h0, fun _ => h0, fun h => absurd h hrun, fun h => absurd h hrun⟩

end Sys2Proof.Machine
end

section
/-!
PROOFS. The fault monitor (44_fault.md R272 to R274): the two commands, which write FAULT alone, and the hysteresis law
of a TICK in FAULT, where trip and recovery act on each bit in turn.
-/
namespace Sys2Proof.Machine

/-! ## The commands (R272, R273) -/

/-- A command under G2 whose operation f writes FAULT alone: its word, its refusal, and whatever a rule says of the new
mask. -/
theorem debugCommand_writesMask {i : Instr} {f : State → State} {Rule : W16 → Prop} {s : State} (hi : gateOf i = .g2)
    (hexec : exec i s = gated .g2 f s) (hframe : f s = { s with fault := (f s).fault }) (hrule : Rule (f s).fault) :
    DebugCommand i (encode i) s ∧ (s.debugReady → ∃ mask, Rule mask ∧ exec i s = .next { s with fault := mask }) :=
  ⟨debugCommand_of_gateOf hi s, fun h => ⟨(f s).fault, hrule, (exec_of_g2 hexec h).trans (congrArg _ hframe)⟩⟩

/-- Settles O35: the operation of FAULT_TRIP is R272, in both set modes. -/
theorem faultTripSetsTheTrippedBits : Obligations.FaultTripSetsTheTrippedBits := fun s =>
  debugCommand_writesMask rfl rfl (faultTrip_eq s) (faultTrip_rule s)

/-- Settles O36: the operation of FAULT_RECOVER is R273. -/
theorem faultRecoverClearsTheRecoveredBits : Obligations.FaultRecoverClearsTheRecoveredBits := fun s =>
  debugCommand_writesMask rfl rfl (faultRecover_eq s) (faultRecover_rule s)

/-! ## The hysteresis law (R274) -/

/-- A bit that a trip sets and a recovery then clears, for comparisons that never hold together: between them lies the
band in which the bit stays. -/
theorem hysteresis_bit {trip recovered inBand : Prop} [Decidable trip] [Decidable recovered] [Decidable inBand]
    (bit : Bool) (hexcl : trip → ¬ recovered) (hband : inBand ↔ ¬ recovered) :
    ((bit || decide trip) && !decide recovered) = if trip then true else if inBand then bit else false := by
  by_cases ht : trip
  · simp [ht, hexcl ht]
  · by_cases hr : recovered <;> simp [ht, hr, hband]

/-- The handler of FAULT writes the mask only by the recovery; its return to CTRL_RUN leaves it (45_sequencer.md R301). -/
theorem stateFault_fault (s : State) : (stateFault s).fault = (faultRecover s).fault := by
  rw [stateFault_eq]
  split_ifs <;> rfl

/-- Under OR a trip and then a recovery make each bit from its old value and its own two comparisons; both read the same
measurements, as the trip writes none (R270). -/
theorem faultRecover_faultTrip_getLsbD {s : State} (hmode : s.params.faultSetMode = .or) :
    (faultRecover (faultTrip s)).fault.getLsbD 0 =
        ((s.fault.getLsbD 0 || decide (s.cfg.dcOvLim.toInt ≤ s.dcavg.out.toInt))
          && !decide (s.dcavg.out.toInt < s.cfg.dcOvRec.toInt))
      ∧ (faultRecover (faultTrip s)).fault.getLsbD 1 =
        ((s.fault.getLsbD 1 || decide (s.rms.out.toInt < s.cfg.acUvLim.toInt))
          && !decide (s.cfg.acUvRec.toInt < s.rms.out.toInt))
      ∧ (faultRecover (faultTrip s)).fault.getLsbD 2 =
        ((s.fault.getLsbD 2 || decide (s.cfg.acOvLim.toInt ≤ s.rms.out.toInt))
          && !decide (s.rms.out.toInt < s.cfg.acOvRec.toInt)) := by
  have htrip := faultTrip_rule s
  simp only [TripRule, hmode] at htrip
  obtain ⟨htrip0, htrip1, htrip2, -⟩ := htrip
  obtain ⟨hrec0, hrec1, hrec2, -⟩ := faultRecover_rule (faultTrip s)
  rw [faultTrip_cfg, faultTrip_dcavg] at hrec0
  rw [faultTrip_cfg, faultTrip_rms] at hrec1 hrec2
  exact ⟨htrip0 ▸ hrec0, htrip1 ▸ hrec1, htrip2 ▸ hrec2⟩

/-- Settles O37: after the measurement the TICK trips and then recovers, and an ordered pair of limits makes the two
comparisons of a bit exclusive. -/
theorem faultTickDecidesBitsByHysteresis : Obligations.FaultTickDecidesBitsByHysteresis := by
  intro s ⟨hconf, _, hstate⟩ hmode huv hov hdc
  refine ⟨stateFault (faultTrip (estim s.latch)), exec_tick_of_phase (p := .fault) hconf (Phase.ofCode_eq hstate), ?_⟩
  have hfault : (estim s.latch).fault = s.fault := by simp
  have hcfg : (estim s.latch).cfg = s.cfg := by simp
  have hmode' : (estim s.latch).params.faultSetMode = .or := by simpa using hmode
  rw [stateFault_fault, stateFault_rms, stateFault_dcavg, faultTrip_rms, faultTrip_dcavg]
  generalize estim s.latch = m at hfault hcfg hmode' ⊢
  obtain ⟨hbit0, hbit1, hbit2⟩ := faultRecover_faultTrip_getLsbD hmode'
  rw [hbit1, hbit2, hbit0, hfault, hcfg]
  exact ⟨hysteresis_bit _ (by omega) (by omega), hysteresis_bit _ (by omega) (by omega),
    hysteresis_bit _ (by omega) (by omega)⟩

end Sys2Proof.Machine
end

section
/-!
PROOFS. The two one-shot commands of the sequencer (45_sequencer.md R291, R292, R296): ESTIM under gate G2, and INIT
under gate G3 with its configuration check.
-/
namespace Sys2Proof.Machine

/-- Settles O38: under G2 the configuration is a legal one, so no window length is 0 and R291 is the whole operation. -/
theorem estimRunsEveryEstimatorOnce : Obligations.EstimRunsEveryEstimatorOnce := fun s hcfg =>
  debugCommand_runs rfl rfl fun h => by
    obtain ⟨hdcN, hacN, hrmsN, -⟩ := Cfg.legal_spec (hcfg h.2)
    exact estim_rule s hdcN hacN hrmsN

/-! ## The configuration check (R296) -/

/-- The check as the conditions it tests, in its own order: the two PI units one after the other. -/
theorem Cfg.legal_iff (c : Cfg) : c.legal = true ↔
    (1 ≤ c.dcavgN.toNat ∧ 1 ≤ c.acavgN.toNat ∧ 1 ≤ c.rmsN.toNat) ∧ c.piv.legal = true ∧ c.pic.legal = true
      ∧ c.dutyMin.toNat ≤ c.dutyMax.toNat ∧ 1 ≤ c.ssPeriod.toNat ∧ 0 ≤ c.ssStep.toInt ∧ c.vlDiv.toNat ≤ 65534 := by
  simp only [Cfg.legal, Bool.and_eq_true, decide_eq_true_eq, and_assoc]
  rfl

/-- Settles O39: the table of R296 lists the ranges of both PI units by kind, the check tests them unit by unit. -/
theorem configurationCheckIsTheLegalRanges : Obligations.ConfigurationCheckIsTheLegalRanges := by
  intro c
  rw [Cfg.legal_iff, PiCfg.legal_iff, PiCfg.legal_iff]
  constructor
  · rintro ⟨hn, ⟨hkpV, hkiV, hkpsV, hkisV, hclampV⟩, ⟨hkpC, hkiC, hkpsC, hkisC, hclampC⟩, hrest⟩
    exact ⟨hn, ⟨hkpV, hkiV, hkpC, hkiC⟩, ⟨hkpsV, hkisV, hkpsC, hkisC⟩, ⟨hclampV, hclampC⟩, hrest⟩
  · rintro ⟨hn, ⟨hkpV, hkiV, hkpC, hkiC⟩, ⟨hkpsV, hkisV, hkpsC, hkisC⟩, ⟨hclampV, hclampC⟩, hrest⟩
    exact ⟨hn, ⟨hkpV, hkiV, hkpsV, hkisV, hclampV⟩, ⟨hkpC, hkiC, hkpsC, hkisC, hclampC⟩, hrest⟩

/-! ## INIT (R292) -/

theorem init_refuses {s : State} (h : s.ctrl.trigen = true) : Refuses .init s :=
  failedGateOnlySetsIllegal .init s (by simp [gateOf, gateCondition, h])

theorem exec_init_of_masked {s : State} (h : s.ctrl.trigen = false) : exec .init s = .next (initCommand s) :=
  gated_of_holds (g := .g3) (by simp [Gate.holds, h])

theorem initCommand_of_legal {s : State} (h : LegalRanges s.cfg) : initCommand s = initPass s :=
  if_pos ((configurationCheckIsTheLegalRanges s.cfg).mpr h)

theorem initCommand_of_not_legal {s : State} (h : ¬ LegalRanges s.cfg) : initCommand s = initFail s :=
  if_neg (mt (configurationCheckIsTheLegalRanges s.cfg).mp h)

/-- Settles O40, by the gate and the outcome of the check; `initPass` evaluates to the state R292 lists. -/
theorem initChecksAndResets : Obligations.InitChecksAndResets := fun _ =>
  ⟨decode_encode .init, init_refuses,
    fun htrig hillegal => (exec_init_of_masked htrig).trans (congrArg _ (initCommand_of_not_legal hillegal)),
    fun htrig hlegal => (exec_init_of_masked htrig).trans (congrArg _ (initCommand_of_legal hlegal))⟩

end Sys2Proof.Machine
end

section
/-!
PROOFS. TICK in each state (45_sequencer.md R293 to R302): the measurements of R293, and the handler of the state on
what they leave.
-/
namespace Sys2Proof.Machine

/-! ## A code without a phase (R302) -/

theorem Phase.ofCode_eq_none {c : BitVec 3} (h : 4 < c.toNat) : Phase.ofCode c = none := by
  revert c
  decide

theorem tickCommand_of_no_phase {s : State} (h : Phase.ofCode s.status.state = none) :
    tickCommand s = s.raiseIllegal := by
  simp only [tickCommand, h]

theorem exec_tick_of_configured {s : State} (h : s.status.configured = true) : exec .tick s = .next (tickCommand s) :=
  gated_of_holds (g := .g4) h

/-- Settles O41: a STATE above 4 is no phase, so no handler runs. -/
theorem tickInUnreachableStateIsRefused : Obligations.TickInUnreachableStateIsRefused := fun _ hconf hstate =>
  (exec_tick_of_configured hconf).trans (congrArg _ (tickCommand_of_no_phase (Phase.ofCode_eq_none hstate)))

/-! ## A phase (R293, R297 to R301) -/

/-- A TICK taken in a phase on a checked configuration measures and then runs the handler of the phase. -/
theorem exec_tick_measured (p : Phase) {s : State} (h : s.tickReady p.code.toNat) :
    ∃ f, MeasureRule s f ∧ exec .tick s = .next (dispatch p f) := by
  obtain ⟨hconf, hlegal, hstate⟩ := h
  exact ⟨_, measure_rule s hlegal, exec_tick_of_phase hconf (Phase.ofCode_eq hstate)⟩

/-- The measurements write no configuration register. -/
theorem MeasureRule.cfg_eq {s f : State} (h : MeasureRule s f) : f.cfg = s.cfg := by
  obtain ⟨e, mask, ⟨dc, ac, rms, dcrdy, acrdy, rmsrdy, rect, -, -, -, -, rfl⟩, -, rfl⟩ := h
  rfl

/-- Settles O42: the handler of INIT is R297. -/
theorem initStateTickResetsAndStartsCalibration : Obligations.InitStateTickResetsAndStartsCalibration := by
  intro s h
  obtain ⟨f, hf, htick⟩ := exec_tick_measured .init h
  exact ⟨f, hf, htick.trans (congrArg _ (stateInit_eq f))⟩

/-- Settles O43: the answer taken is the one the calibration unit gives next, waiting or drawn. -/
theorem offsetMeasTickTakesOneCalibrationAnswer : Obligations.OffsetMeasTickTakesOneCalibrationAnswer := by
  intro s h
  obtain ⟨f, hf, htick⟩ := exec_tick_measured .offsetMeas h
  refine ⟨f, f.calAnswer, f.takeCalAnswer.calAnswers, f.takeCalAnswer.calDraws, hf, htick.trans (congrArg _ ?_)⟩
  rw [dispatch, stateOffsetMeas_eq, calUpdate_eq]

/-- Settles O44: the handler of WAIT_1CYCLE is R299. -/
theorem wait1CycleTickWaitsForRms : Obligations.Wait1CycleTickWaitsForRms := by
  intro s h
  obtain ⟨f, hf, htick⟩ := exec_tick_measured .wait1Cycle h
  exact ⟨f, hf, htick.trans (congrArg _ (stateWait1Cycle_eq f))⟩

theorem stateCtrlRun_of_fault {s : State} (h : (iCorr s).fault ≠ 0) : stateCtrlRun s = (iCorr s).faultEntry :=
  if_pos h

theorem stateCtrlRun_of_no_fault {s : State} (h : (iCorr s).fault = 0) :
    stateCtrlRun s = iLoop (boostD (iRef (vLoop (softStart (iCorr s))))) :=
  if_neg (not_not_intro h)

/-- Settles O45, by the mask: each control operation is its rule; the checked configuration serves the ramp, whose step
is then not negative. -/
theorem ctrlRunTickControlsOrEntersFault : Obligations.CtrlRunTickControlsOrEntersFault := by
  intro s h
  obtain ⟨f, hf, htick⟩ := exec_tick_measured .ctrlRun h
  obtain ⟨-, hlegal, -⟩ := h
  obtain ⟨-, -, -, hstep, -⟩ := Cfg.legal_spec hlegal
  have hcfg : (iCorr f).cfg = s.cfg := (iCorr_cfg f).trans hf.cfg_eq
  refine ⟨f, iCorr f, hf, iCorr_rule f, fun hfault => ?_, fun hclear => ?_⟩
  · exact htick.trans (congrArg _ (stateCtrlRun_of_fault hfault))
  · exact ⟨_, _, _, _, _, softStart_rule (iCorr f) (hcfg ▸ hstep), vLoop_rule _, iRef_rule _, boostD_rule _,
      iLoop_rule _, htick.trans (congrArg _ (stateCtrlRun_of_no_fault hclear))⟩

/-- Settles O46: the handler of FAULT is R301, with the mask R273 leaves. -/
theorem faultTickRecoversAndReturns : Obligations.FaultTickRecoversAndReturns := by
  intro s h
  obtain ⟨f, hf, htick⟩ := exec_tick_measured .fault h
  exact ⟨f, (faultRecover f).fault, hf, faultRecover_rule f, htick.trans (congrArg _ (stateFault_eq f))⟩

end Sys2Proof.Machine
end

section
/-!
PROOFS. The transition relation of STATUS.STATE (45_sequencer.md R303): each handler moves it by the flags it leaves,
a passing INIT returns it to INIT, and no other command writes it.
-/
namespace Sys2Proof.Machine

/-! ## TICK -/

/-- The transition relation of R303: the phase after a TICK that was taken in a phase and ended in the state t. -/
def Phase.next (p : Phase) (t : State) : Phase :=
  match p with
  | .init => .offsetMeas
  | .offsetMeas => if t.status.calrdy = true ∧ t.status.dcrdy = true then .wait1Cycle else .offsetMeas
  | .wait1Cycle => if t.status.rmsrdy = true then .ctrlRun else .wait1Cycle
  | .ctrlRun => if t.fault ≠ 0 then .fault else .ctrlRun
  | .fault => if t.fault = 0 then .ctrlRun else .fault

theorem Phase.code_toNat_ite (c : Prop) [Decidable c] (p q : Phase) :
    (if c then p else q).code.toNat = if c then p.code.toNat else q.code.toNat :=
  apply_ite (fun r : Phase => r.code.toNat) c p q

section
variable {s : State}

theorem stateOffsetMeas_state (h : s.status.state = Phase.offsetMeas.code) :
    (stateOffsetMeas s).status.state = (Phase.offsetMeas.next (stateOffsetMeas s)).code := by
  have hcal : (stateOffsetMeas s).status.calrdy = s.calAnswer.ready := by
    rw [stateOffsetMeas_eq, calUpdate_eq]
    split_ifs <;> rfl
  have hdc : (stateOffsetMeas s).status.dcrdy = s.status.dcrdy := by
    rw [stateOffsetMeas_eq, calUpdate_eq]
    split_ifs <;> rfl
  rw [Phase.next, hcal, hdc, stateOffsetMeas_eq, calUpdate_eq]
  split_ifs
  · rfl
  · exact h

theorem stateWait1Cycle_state (h : s.status.state = Phase.wait1Cycle.code) :
    (stateWait1Cycle s).status.state = (Phase.wait1Cycle.next (stateWait1Cycle s)).code := by
  have hrdy : (stateWait1Cycle s).status.rmsrdy = s.status.rmsrdy := by
    rw [stateWait1Cycle_eq]
    split_ifs <;> rfl
  rw [Phase.next, hrdy, stateWait1Cycle_eq]
  split_ifs
  · rfl
  · exact h

/-- The control operations write no STATUS, and none of CTRL_RUN writes the mask. -/
theorem stateCtrlRun_state (h : s.status.state = Phase.ctrlRun.code) :
    (stateCtrlRun s).status.state = (Phase.ctrlRun.next (stateCtrlRun s)).code := by
  rw [Phase.next, stateCtrlRun_fault, stateCtrlRun_eq]
  split_ifs
  · rfl
  · simpa using h

/-- The return from FAULT leaves the mask as the recovery left it. -/
theorem stateFault_state (h : s.status.state = Phase.fault.code) :
    (stateFault s).status.state = (Phase.fault.next (stateFault s)).code := by
  rw [Phase.next, stateFault_fault, stateFault_eq]
  split_ifs
  · rfl
  · exact h

theorem dispatch_state {p : Phase} (h : s.status.state = p.code) :
    (dispatch p s).status.state = (p.next (dispatch p s)).code := by
  cases p with
  | init => exact congrArg (·.status.state) (stateInit_eq s)
  | offsetMeas => exact stateOffsetMeas_state h
  | wait1Cycle => exact stateWait1Cycle_state h
  | ctrlRun => exact stateCtrlRun_state h
  | fault => exact stateFault_state h

end

/-- The measurements before the handler leave STATE (R295), so a configured TICK is one move of the relation. -/
theorem exec_tick_state (p : Phase) {s t : State} (hconf : s.status.configured = true) (ht : exec .tick s = .next t)
    (hstate : s.status.state.toNat = p.code.toNat) : t.status.state = (p.next t).code := by
  rw [exec_tick_of_phase hconf (Phase.ofCode_eq hstate)] at ht
  obtain rfl := Host.Outcome.next.inj ht
  refine dispatch_state ?_
  rw [faultTrip_status, estim_status_state, State.latch_status]
  exact BitVec.eq_of_toNat_eq hstate

/-! ## Every other command -/

@[simp] theorem mafUpdate_state (u : MafSel) (x : Int) (s : State) :
    (mafUpdate u x s).status.state = s.status.state := by
  unfold mafUpdate
  dsimp only
  split_ifs <;> simp

@[simp] theorem mafReset_state (u : MafSel) (s : State) : (mafReset u s).status.state = s.status.state := by
  simp [mafReset]

@[simp] theorem rmsUpdate_state (x : Int) (s : State) : (rmsUpdate x s).status.state = s.status.state := by
  unfold rmsUpdate
  dsimp only
  split_ifs <;> rfl

@[simp] theorem rmsReset_state (s : State) : (rmsReset s).status.state = s.status.state := rfl

/-- A refusal leaves STATE, so a gated command does if its effect past the gate does. -/
theorem gated_state {g : Gate} {f : State → State} {s t : State} (ht : gated g f s = .next t)
    (hf : g.holds s = true → (f s).status.state = s.status.state) : t.status.state = s.status.state :=
  gated_elim (P := fun t => t.status.state = s.status.state) ht rfl hf

/-- An INIT command that does not pass is refused or marks CFGERR; neither writes STATE (R292). -/
theorem exec_init_state {s t : State} (hfails : s.ctrl.trigen = true ∨ ¬ LegalRanges s.cfg)
    (ht : exec .init s = .next t) : t.status.state = s.status.state := by
  refine gated_state (g := .g3) ht fun hgate => ?_
  have hillegal : ¬ LegalRanges s.cfg := hfails.resolve_left (by simpa [Gate.holds] using hgate)
  rw [initCommand_of_not_legal hillegal]
  rfl

theorem exec_state {i : Instr} {s t : State} (ht : exec i s = .next t) (htick : i = .tick → s.status.configured = false)
    (hinit : i = .init → s.ctrl.trigen = true ∨ ¬ LegalRanges s.cfg) : t.status.state = s.status.state := by
  cases i with
  | nop | sat16 | clamp | mulq | mulshr | divq | divt | acc | shra | rect =>
    obtain rfl | rfl | ⟨v, rfl⟩ := exec_primitive (by decide) ht <;> rfl
  | mafUpdateDcavg | mafUpdateAcavg | rmsUpdate =>
    simp only [exec, execMafUpdateDcavg, execMafUpdateAcavg, execRmsUpdate] at ht
    exact gated_state ht fun _ => by simp
  | piUpdatePiv | piUpdatePic =>
    simp only [exec, execPiUpdatePiv, execPiUpdatePic] at ht
    exact gated_state ht fun _ => by simp
  | mafResetDcavg | mafResetAcavg | rmsReset | piResetPiv | piResetPic | softstart | vloop | iref | boostd | icorr
    | iloop | faultTrip | faultRecover | estim => exact gated_state (g := .g2) ht fun _ => by simp
  | init => exact exec_init_state (hinit rfl) ht
  | tick => exact gated_state (g := .g4) ht fun hgate => absurd (hgate.symm.trans (htick rfl)) (by decide)

/-- Settles O47: a configured TICK is one move of the relation, which the clauses read off phase by phase. -/
theorem stateMovesOnlyByTheTransitionRelation : Obligations.StateMovesOnlyByTheTransitionRelation := by
  refine ⟨fun s t hconf ht => ?_, fun s t htrig hlegal ht => ?_, fun i s t ht htick hinit => exec_state ht htick hinit⟩
  · have hmove (p : Phase) (h : s.status.state.toNat = p.code.toNat) : t.status.state.toNat = (p.next t).code.toNat :=
      congrArg BitVec.toNat (exec_tick_state p hconf ht h)
    refine ⟨hmove .init, fun h => ?_, fun h => ?_, fun h => ?_, fun h => ?_⟩
    · exact (hmove .offsetMeas h).trans (Phase.code_toNat_ite ..)
    · exact (hmove .wait1Cycle h).trans (Phase.code_toNat_ite ..)
    · exact (hmove .ctrlRun h).trans (Phase.code_toNat_ite ..)
    · exact (hmove .fault h).trans (Phase.code_toNat_ite ..)
  · rw [exec_init_of_masked htrig, initCommand_of_legal hlegal] at ht
    obtain rfl := Host.Outcome.next.inj ht
    rfl

end Sys2Proof.Machine
end

section
/-!
PROOFS. What a command writes (60_exceptions.md R343): a debug command stores words at addresses its rule names, sets
ready flags or the refusal mark, and does nothing else; INIT and TICK leave the setup of the block and its operands.
-/
namespace Sys2Proof.Machine

/-! ## Storing 16-bit and 32-bit registers -/

/-- The two words of a 32-bit register, stored one after the other, are the whole register (20_memory.md R84). -/
theorem withHi_withLo (r v : W32) : withHi (withLo r (lo16 v)) (hi16 v) = v := by
  rw [withHi, lo16_withLo]
  exact (BitVec.extractLsb'_append_extractLsb'_eq_extractLsb' rfl).trans BitVec.extractLsb'_eq_self

/-- `REG <- v` for a 32-bit register (00_scope.md R14). -/
def Wide.set (v : W32) (s : State) : Wide → State
  | .opa => { s with operands := { s.operands with a := v } }
  | .opb => { s with operands := { s.operands with b := v } }
  | .opc => { s with operands := { s.operands with c := v } }
  | .res => { s with operands := { s.operands with res := v } }
  | .dcavgSum => { s with dcavg := { s.dcavg with sum := v } }
  | .acavgSum => { s with acavg := { s.acavg with sum := v } }
  | .rmsSum => { s with rms := { s.rms with sum := v } }
  | .pivInt => { s with piv := { s.piv with integ := v } }
  | .picInt => { s with pic := { s.pic with integ := v } }
  | .awCeil => { s with cfg := { s.cfg with awCeil := v } }

theorem Wide.set_eq (w : Wide) (v : W32) (s : State) : w.set v s = w.hi.set (hi16 v) (w.lo.set (lo16 v) s) := by
  cases w <;> simp only [Wide.set, Wide.lo, Wide.hi, Reg.set, withHi_withLo]

theorem Wide.cls_lo (w : Wide) : w.lo.cls ≠ .k ∧ w.lo.cls ≠ .s := by cases w <;> decide

theorem Wide.cls_hi (w : Wide) : w.hi.cls ≠ .k ∧ w.hi.cls ≠ .s := by cases w <;> decide

/-! ## States that differ at listed addresses only -/

/-- Only the ready flags of STATUS changed, and ILLEGAL was not cleared. -/
structure Status.SameButFlags (a b : Status) : Prop where
  state : b.state = a.state
  outen : b.outen = a.outen
  calrdy : b.calrdy = a.calrdy
  configured : b.configured = a.configured
  cfgerr : b.cfgerr = a.cfgerr
  illegal : a.illegal = true → b.illegal = true

/-- From s to t only the words at the addresses W changed, and in STATUS at most the ready flags and a raised
ILLEGAL. -/
structure State.WritesOnly (W : List Nat) (s t : State) : Prop where
  reads : ∀ a : Addr, a ≠ 0x01 → a.toNat ∉ W → busRead a t = busRead a s
  outside : SameOutside s t
  status : s.status.SameButFlags t.status

theorem State.WritesOnly.refl {W : List Nat} (s : State) : s.WritesOnly W s :=
  ⟨fun _ _ _ => rfl, ⟨rfl, rfl, rfl, rfl, rfl, rfl, rfl, rfl⟩, ⟨rfl, rfl, rfl, rfl, rfl, id⟩⟩

theorem SameOutside.trans {s t u : State} (hst : SameOutside s t) (htu : SameOutside t u) : SameOutside s u := by
  obtain ⟨hparams, hport, hanswers, hdraws, htorn, hcalls, hhost, htelemetry⟩ := hst
  obtain ⟨hparams', hport', hanswers', hdraws', htorn', hcalls', hhost', htelemetry'⟩ := htu
  exact ⟨hparams'.trans hparams, hport'.trans hport, hanswers'.trans hanswers, hdraws'.trans hdraws,
    htorn'.trans htorn, hcalls'.trans hcalls, hhost'.trans hhost, htelemetry'.trans htelemetry⟩

section
variable {W : List Nat} {s t : State}

/-- Storing one more 16-bit word at an address of the list. -/
theorem State.WritesOnly.set (h : s.WritesOnly W t) (r : Reg) (v : W16) (hr : r.addr.toNat ∈ W := by decide)
    (hcls : r.cls ≠ .k ∧ r.cls ≠ .s := by decide) : s.WritesOnly W (r.set v t) := by
  obtain ⟨-, hother, houtside⟩ := Reg.set_stores (Reg.ofAddr_addr r) v t hcls.1 hcls.2
  refine ⟨fun a ha1 haW => ?_, h.outside.trans houtside, by simpa using h.status⟩
  have hne : a ≠ r.addr := fun he => haW (he ▸ hr)
  exact (hother a hne ha1).trans (h.reads a ha1 haW)

/-- Storing one more 32-bit register, both of whose addresses are on the list. -/
theorem State.WritesOnly.setWide (h : s.WritesOnly W t) (w : Wide) (v : W32)
    (hlo : w.lo.addr.toNat ∈ W := by decide) (hhi : w.hi.addr.toNat ∈ W := by decide) : s.WritesOnly W (w.set v t) := by
  rw [Wide.set_eq]
  exact (h.set w.lo _ hlo w.cls_lo).set w.hi _ hhi w.cls_hi

theorem State.WritesOnly.withStatus (h : s.WritesOnly W t) {x : Status} (hx : s.status.SameButFlags x) :
    s.WritesOnly W { t with status := x } :=
  ⟨fun a ha1 haW => (busRead_withStatus ha1 x t).trans (h.reads a ha1 haW), h.outside, hx⟩

/-! ## Units -/

/-- The word addresses of a moving-average unit (10_state.md R51). -/
def MafSel.words : MafSel → List Nat
  | .dcavg => [0x20, 0x21, 0x22, 0x23]
  | .acavg => [0x24, 0x25, 0x26, 0x27]

/-- The word addresses an update of a PI unit writes: all but `p_REF` (10_state.md R51, 42_pi.md R203). -/
def PiSel.words : PiSel → List Nat
  | .piv => [0x31, 0x32, 0x33, 0x34]
  | .pic => [0x39, 0x3A, 0x3B, 0x3C]

/-- The word addresses of the RMS unit (10_state.md R51). -/
def rmsWords : List Nat := [0x28, 0x29, 0x2A, 0x2B, 0x2C]

theorem State.WritesOnly.setMaf (h : s.WritesOnly W t) (u : MafSel) (m : MafUnit) (hW : u.words ⊆ W) :
    s.WritesOnly W (t.setMaf u m) := by
  cases u with
  | dcavg =>
    have hsum := h.setWide .dcavgSum m.sum (hW (by decide)) (hW (by decide))
    have hcnt := hsum.set .dcavgCnt m.cnt (hW (by decide))
    exact hcnt.set .dcavgOut m.out (hW (by decide))
  | acavg =>
    have hsum := h.setWide .acavgSum m.sum (hW (by decide)) (hW (by decide))
    have hcnt := hsum.set .acavgCnt m.cnt (hW (by decide))
    exact hcnt.set .acavgOut m.out (hW (by decide))

theorem State.WritesOnly.setMafReady (h : s.WritesOnly W t) (u : MafSel) (b : Bool) :
    s.WritesOnly W (t.setMafReady u b) := by
  obtain ⟨hstate, houten, hcalrdy, hconfigured, hcfgerr, hillegal⟩ := h.status
  cases u <;> exact h.withStatus ⟨hstate, houten, hcalrdy, hconfigured, hcfgerr, hillegal⟩

theorem State.WritesOnly.withRms (h : s.WritesOnly W t) (r : RmsUnit) (hW : rmsWords ⊆ W) :
    s.WritesOnly W { t with rms := r } := by
  have hsum := h.setWide .rmsSum r.sum (hW (by decide)) (hW (by decide))
  have hcnt : s.WritesOnly W { t with rms := { t.rms with sum := r.sum, cnt := r.cnt } } :=
    hsum.set .rmsCnt r.cnt (hW (by decide))
  exact (hcnt.set .rmsOut r.out (hW (by decide))).set .rmsPeak r.peak (hW (by decide))

theorem State.WritesOnly.setRmsReady (h : s.WritesOnly W t) (b : Bool) : s.WritesOnly W (t.setRmsReady b) := by
  obtain ⟨hstate, houten, hcalrdy, hconfigured, hcfgerr, hillegal⟩ := h.status
  exact h.withStatus ⟨hstate, houten, hcalrdy, hconfigured, hcfgerr, hillegal⟩

/-! ## Operations that several commands share -/

theorem State.WritesOnly.mafUpdate (h : s.WritesOnly W t) (u : MafSel) (x : Int) (hW : u.words ⊆ W) :
    s.WritesOnly W (Machine.mafUpdate u x t) := by
  unfold Machine.mafUpdate
  dsimp only
  split_ifs
  · exact (h.setMaf u _ hW).setMafReady u true
  · exact h.setMaf u _ hW

theorem State.WritesOnly.rmsUpdate (h : s.WritesOnly W t) (x : Int) (hW : rmsWords ⊆ W) :
    s.WritesOnly W (Machine.rmsUpdate x t) := by
  unfold Machine.rmsUpdate
  dsimp only
  split_ifs
  · exact (h.withRms _ hW).setRmsReady true
  · exact h.withRms _ hW

theorem State.WritesOnly.piUpdate (h : s.WritesOnly W t) (p : PiSel) (e ki : W16) (hW : p.words ⊆ W) :
    s.WritesOnly W (Machine.piUpdate p e ki t) := by
  cases p with
  | piv =>
    have herr := h.set .pivErr e (hW (by decide))
    have hint := herr.setWide .pivInt (Machine.piUpdate .piv e ki t).piv.integ (hW (by decide)) (hW (by decide))
    exact hint.set .pivOut (Machine.piUpdate .piv e ki t).piv.out (hW (by decide))
  | pic =>
    have herr := h.set .picErr e (hW (by decide))
    have hint := herr.setWide .picInt (Machine.piUpdate .pic e ki t).pic.integ (hW (by decide)) (hW (by decide))
    exact hint.set .picOut (Machine.piUpdate .pic e ki t).pic.out (hW (by decide))

end

/-! ## Operations of one command each -/

theorem raiseIllegal_writes {W : List Nat} (s : State) : s.WritesOnly W s.raiseIllegal :=
  (State.WritesOnly.refl s).withStatus ⟨rfl, rfl, rfl, rfl, rfl, fun _ => rfl⟩

theorem softStart_writes (s : State) : s.WritesOnly (writeSet .softstart) (softStart s) := by
  unfold softStart
  split_ifs
  · exact (State.WritesOnly.refl s).set .ssCnt _
  · exact ((State.WritesOnly.refl s).set .ssCnt s.cfg.ssPeriod).set .pivRef _
  · exact .refl s

theorem vLoop_writes (s : State) : s.WritesOnly (writeSet .vloop) (vLoop s) := by
  have hcnt (c : W16) : s.WritesOnly (writeSet .vloop) { s with scal := { s.scal with vlCnt := c } } :=
    (State.WritesOnly.refl s).set .vlCnt c
  unfold vLoop
  dsimp only
  split_ifs
  · exact (hcnt 0).piUpdate .piv _ _ (by decide)
  · exact hcnt _

theorem iRef_writes (s : State) : s.WritesOnly (writeSet .iref) (iRef s) :=
  (State.WritesOnly.refl s).set .iref _

theorem boostD_writes (s : State) : s.WritesOnly (writeSet .boostd) (boostD s) := by
  unfold boostD
  dsimp only
  split_ifs
  · exact (State.WritesOnly.refl s).set .boostd _
  · exact .refl s

theorem iCorr_writes (s : State) : s.WritesOnly (writeSet .icorr) (iCorr s) := by
  unfold iCorr
  split_ifs
  · exact (State.WritesOnly.refl s).set .il _
  · exact .refl s

section
variable {s t : State} (h : s.WritesOnly (writeSet .iloop) t)
include h

theorem dutyConvert_writes : s.WritesOnly (writeSet .iloop) (dutyConvert t) := by
  unfold dutyConvert
  dsimp only
  split_ifs
  · exact (h.setWide .picInt t.cfg.awCeil).set .duty _
  · exact h.set .duty _

theorem standbyOverride_writes : s.WritesOnly (writeSet .iloop) (standbyOverride t) := by
  unfold standbyOverride
  split_ifs
  · exact (h.set .duty 0).setWide .picInt 0
  · exact h

end

theorem iLoop_writes (s : State) : s.WritesOnly (writeSet .iloop) (iLoop s) := by
  have href (il iavg : W16) : s.WritesOnly (writeSet .iloop)
      { s with
        snap := { s.snap with il := il }
        scal := { s.scal with iavg := iavg }
        pic := { s.pic with ref := s.scal.iref } } :=
    (((State.WritesOnly.refl s).set .il il).set .iavg iavg).set .picRef s.scal.iref
  exact standbyOverride_writes (dutyConvert_writes (State.WritesOnly.piUpdate (href _ _) .pic _ _ (by decide)))

theorem estim_writes (s : State) : s.WritesOnly (writeSet .estim) (estim s) := by
  have hdcavg := (State.WritesOnly.refl s).mafUpdate .dcavg (int16 s.snap.vdc) (W := writeSet .estim) (by decide)
  have hacavg := hdcavg.mafUpdate .acavg (int16 (mafUpdate .dcavg (int16 s.snap.vdc) s).snap.vac) (by decide)
  unfold estim
  dsimp only
  generalize mafUpdate .acavg _ _ = m at hacavg
  exact ((hacavg.set .vacOffset m.acavg.out).set .rect _).rmsUpdate _ (by decide)

/-! ## Commands -/

theorem gated_writes {W : List Nat} {g : Gate} {f : State → State} {s t : State} (ht : gated g f s = .next t)
    (hf : s.WritesOnly W (f s)) : s.WritesOnly W t :=
  gated_elim ht (raiseIllegal_writes s) fun _ => hf

/-- Every command but INIT and TICK writes the words its rule names, and no other. -/
theorem exec_writes {i : Instr} {s t : State} (hinit : i ≠ .init) (htick : i ≠ .tick) (ht : exec i s = .next t) :
    s.WritesOnly (writeSet i) t := by
  cases i with
  | nop =>
    obtain rfl := Host.Outcome.next.inj ((exec_nop s).symm.trans ht)
    exact .refl s
  | sat16 | clamp | mulq | mulshr | divq | divt | acc | shra | rect =>
    obtain rfl | rfl | ⟨v, rfl⟩ := exec_primitive (by decide) ht
    · exact .refl t
    · exact raiseIllegal_writes s
    · exact (State.WritesOnly.refl s).setWide .res v
  | mafUpdateDcavg =>
    simp only [exec, execMafUpdateDcavg] at ht
    exact gated_writes ht ((State.WritesOnly.refl s).mafUpdate .dcavg _ (by decide))
  | mafUpdateAcavg =>
    simp only [exec, execMafUpdateAcavg] at ht
    exact gated_writes ht ((State.WritesOnly.refl s).mafUpdate .acavg _ (by decide))
  | mafResetDcavg =>
    exact gated_writes (g := .g2) ht (((State.WritesOnly.refl s).setMaf .dcavg _ (by decide)).setMafReady .dcavg _)
  | mafResetAcavg =>
    exact gated_writes (g := .g2) ht (((State.WritesOnly.refl s).setMaf .acavg _ (by decide)).setMafReady .acavg _)
  | rmsUpdate =>
    simp only [exec, execRmsUpdate] at ht
    exact gated_writes ht ((State.WritesOnly.refl s).rmsUpdate _ (by decide))
  | rmsReset => exact gated_writes (g := .g2) ht (((State.WritesOnly.refl s).withRms _ (by decide)).setRmsReady _)
  | piUpdatePiv =>
    simp only [exec, execPiUpdatePiv] at ht
    exact gated_writes ht ((State.WritesOnly.refl s).piUpdate .piv _ _ (by decide))
  | piUpdatePic =>
    simp only [exec, execPiUpdatePic] at ht
    exact gated_writes ht ((State.WritesOnly.refl s).piUpdate .pic _ _ (by decide))
  | piResetPiv =>
    exact gated_writes (g := .g2) ht ((State.WritesOnly.refl s).setWide .pivInt 0)
  | piResetPic =>
    exact gated_writes (g := .g2) ht ((State.WritesOnly.refl s).setWide .picInt 0)
  | softstart => exact gated_writes (g := .g2) ht (softStart_writes s)
  | vloop => exact gated_writes (g := .g2) ht (vLoop_writes s)
  | iref => exact gated_writes (g := .g2) ht (iRef_writes s)
  | boostd => exact gated_writes (g := .g2) ht (boostD_writes s)
  | icorr => exact gated_writes (g := .g2) ht (iCorr_writes s)
  | iloop => exact gated_writes (g := .g2) ht (iLoop_writes s)
  | faultTrip =>
    refine gated_writes (g := .g2) ht ?_
    rw [faultTrip_eq]
    exact (State.WritesOnly.refl s).set .fault _
  | faultRecover =>
    refine gated_writes (g := .g2) ht ?_
    rw [faultRecover_eq]
    exact (State.WritesOnly.refl s).set .fault _
  | estim => exact gated_writes (g := .g2) ht (estim_writes s)
  | init => exact absurd rfl hinit
  | tick => exact absurd rfl htick

theorem status_mem_writeSet (i : Instr) : 0x01 ∈ writeSet i := by cases i <;> decide

/-- Outside the write set of INIT and TICK stand CTRL, the samples, the operand registers and the configuration. -/
theorem busRead_of_setup_eq {s t : State} (hctrl : t.ctrl = s.ctrl) (hsamples : t.samples = s.samples)
    (hoperands : t.operands = s.operands) (hcfg : t.cfg = s.cfg) {a : Addr} (ha : a.toNat ∉ writeSet .tick) :
    busRead a t = busRead a s := by
  unfold busRead
  cases hr : Reg.ofAddr a with
  | none => rfl
  | some r =>
    obtain rfl := Reg.addr_of_ofAddr hr
    cases r with
    | ctrl => exact congrArg Ctrl.word hctrl
    | vdcS | vacS | ilS => simp only [Reg.get, hsamples]
    | opaLo | opaHi | opbLo | opbHi | opcLo | opcHi | resLo | resHi => simp only [Reg.get, hoperands]
    | dcavgN | acavgN | rmsN | pivKp | pivKps | pivKi | pivKis | pivMin | pivMax | picKp | picKps | picKi | picKis
    | picMin | picMax | vlDiv | shapeK | period | dutyMin | dutyMax | awCeilLo | awCeilHi | voutMinpk | ssStep
    | ssPeriod | vrefFinal | dcOvLim | dcOvRec | acUvLim | acUvRec | acOvLim | acOvRec => simp only [Reg.get, hcfg]
    | _ => exact absurd (by decide) ha

theorem gated_operands {g : Gate} {f : State → State} {s t : State} (ht : gated g f s = .next t)
    (hf : (f s).operands = s.operands) : t.operands = s.operands :=
  gated_elim (P := fun t => t.operands = s.operands) ht rfl fun _ => hf

/-- Outside a command's write set every address reads as before. -/
theorem exec_busRead {i : Instr} {s t : State} (ht : exec i s = .next t) {a : Addr} (ha : a.toNat ∉ writeSet i) :
    busRead a t = busRead a s := by
  have hstatus : a ≠ 0x01 := fun h => ha (h ▸ status_mem_writeSet i)
  obtain ⟨hctrl, hsamples, hcfg, -⟩ := exec_frame ht
  by_cases hinit : i = .init
  · subst hinit
    exact busRead_of_setup_eq hctrl hsamples (gated_operands (g := .g3) ht (initCommand_operands s)) hcfg ha
  by_cases htick : i = .tick
  · subst htick
    exact busRead_of_setup_eq hctrl hsamples (gated_operands (g := .g4) ht (tickCommand_operands s)) hcfg ha
  · exact (exec_writes hinit htick ht).reads a hstatus ha

/-- Settles O60: every command answers, and the frame by address, outside the registers and in STATUS. -/
theorem commandsCompleteAndWriteOnlyTheirRegisters : Obligations.CommandsCompleteAndWriteOnlyTheirRegisters := by
  intro i s
  obtain ⟨t, ht⟩ := exec_isNext i s
  obtain ⟨-, -, -, hparams, hport, hhost, htelemetry, -⟩ := exec_frame ht
  refine ⟨t, ht, fun a ha => exec_busRead ht ha, hparams, hport, hhost, htelemetry, fun ⟨hinit, htick⟩ => ?_⟩
  obtain ⟨-, ⟨-, -, -, -, -, hcalls, -⟩, hstatus⟩ := exec_writes hinit htick ht
  exact ⟨hcalls, hstatus.state, hstatus.outen, hstatus.calrdy, hstatus.configured, hstatus.cfgerr⟩

end Sys2Proof.Machine
end

section
/-!
PROOFS. ILLEGAL is sticky (60_exceptions.md R335): debug commands, TICK and the bus keep it, and only an INIT command that
passes its check clears it.
-/
namespace Sys2Proof.Machine

/-- No handler of a TICK writes ILLEGAL (45_sequencer.md R297 to R301). -/
theorem dispatch_illegal (p : Phase) (s : State) : (dispatch p s).status.illegal = s.status.illegal := by
  cases p with
  | init => exact congrArg (·.status.illegal) (stateInit_eq s)
  | offsetMeas =>
    rw [dispatch, stateOffsetMeas_eq, calUpdate_eq]
    split_ifs <;> rfl
  | wait1Cycle =>
    rw [dispatch, stateWait1Cycle_eq]
    split_ifs <;> rfl
  | ctrlRun =>
    rw [dispatch, stateCtrlRun_eq]
    split_ifs <;> simp
  | fault =>
    rw [dispatch, stateFault_eq]
    split_ifs <;> rfl

theorem tickCommand_illegal {s : State} (hs : s.status.illegal = true) : (tickCommand s).status.illegal = true := by
  unfold tickCommand
  split
  · rfl
  · rwa [dispatch_illegal, faultTrip_status, estim_status_illegal, State.latch_status]

/-- A command that clears ILLEGAL is an INIT past its gate and its check (45_sequencer.md R292). -/
theorem exec_clears_illegal {i : Instr} {s t : State} (ht : exec i s = .next t) (hs : s.status.illegal = true)
    (hclear : t.status.illegal = false) : i = .init ∧ s.ctrl.trigen = false ∧ LegalRanges s.cfg := by
  by_cases hinit : i = .init
  · subst hinit
    by_contra hfails
    have hkept : t.status.illegal = true := by
      refine gated_elim (g := .g3) (P := fun t => t.status.illegal = true) ht rfl fun hgate => ?_
      have htrig : s.ctrl.trigen = false := by simpa [Gate.holds] using hgate
      have hillegal : ¬ LegalRanges s.cfg := fun hlegal => hfails ⟨rfl, htrig, hlegal⟩
      rw [initCommand_of_not_legal hillegal]
      exact hs
    exact absurd (hclear.symm.trans hkept) (by decide)
  by_cases htick : i = .tick
  · subst htick
    have hkept : t.status.illegal = true :=
      gated_elim (g := .g4) (P := fun t => t.status.illegal = true) ht rfl fun _ => tickCommand_illegal hs
    exact absurd (hclear.symm.trans hkept) (by decide)
  · have hkept := (exec_writes hinit htick ht).status.illegal hs
    exact absurd (hclear.symm.trans hkept) (by decide)

/-- No bus write clears ILLEGAL: STATUS is of class S, and a CTRL write or a configuration write clears CONFIGURED at
most. -/
theorem busWrite_illegal (a : Addr) (v : W16) {s : State} (hs : s.status.illegal = true) :
    (busWrite a v s).status.illegal = true := by
  obtain ⟨r, -, -, he⟩ | ⟨-, he⟩ | he | ⟨r, -, -, -, he⟩ | ⟨r, -, -, -, he⟩ := busWrite_cases a v s <;> rw [he]
  · rwa [Reg.set_status]
  · obtain ⟨hw, -⟩ | ⟨hw, -⟩ | ⟨hw, -⟩ := writeCtrl_cases v s <;> rw [hw]
    · exact hs
    · rfl
    · exact hs
  · rfl
  · rwa [Reg.set_status]
  · exact hs

/-- An event that clears ILLEGAL is the word of INIT, with the trigger masked and a legal configuration. -/
theorem portEvent_clears_illegal {e : PortEvent} {s t : State} (ht : portEvent e s = .next t)
    (hs : s.status.illegal = true) (hclear : t.status.illegal = false) :
    e = .command 0x0051 ∧ s.ctrl.trigen = false ∧ LegalRanges s.cfg := by
  have hno {u : State} (hu : u.status.illegal = true) : u ≠ t := by
    rintro rfl
    exact absurd (hclear.symm.trans hu) (by decide)
  cases e with
  | command w =>
    cases hw : decode w with
    | ok i =>
      obtain ⟨rfl, hready⟩ := exec_clears_illegal ((portCommand_of_decode hw s).symm.trans ht) hs hclear
      exact ⟨congrArg _ ((decodeIsTheInverseOfEncode w .init).mp hw), hready⟩
    | error _ =>
      have hrefused := portCommand_of_illegal (fun i => by rw [hw]; exact nofun) s
      exact absurd (Host.Outcome.next.inj (hrefused.symm.trans ht)) (hno rfl)
  | busRead a => exact absurd (Host.Outcome.next.inj ht) (hno hs)
  | busWrite a v => exact absurd (Host.Outcome.next.inj ht) (hno (busWrite_illegal a v hs))
  | trig =>
    cases htrig : s.ctrl.trigen with
    | true =>
      obtain ⟨hi, -⟩ := exec_clears_illegal ((portTrig_enabled htrig).symm.trans ht) hs hclear
      exact absurd hi (by decide)
    | false => exact absurd (Host.Outcome.next.inj ((portTrig_masked htrig).symm.trans ht)) (hno hs)
  | telemetryRead a overlaps => cases overlaps <;> exact absurd (Host.Outcome.next.inj ht) (hno hs)

/-- Settles O58: an idle step keeps ILLEGAL, and a step that takes an event clears it by the word of INIT alone. -/
theorem illegalIsClearedOnlyByAPassingInit : Obligations.IllegalIsClearedOnlyByAPassingInit := by
  intro s t ht hs hclear
  cases hport : s.port with
  | nil =>
    obtain rfl := Host.Outcome.next.inj ((step_nil hport).symm.trans ht)
    exact absurd (hclear.symm.trans hs) (by decide)
  | cons e rest =>
    obtain ⟨rfl, hready⟩ := portEvent_clears_illegal ((step_cons hport).symm.trans ht) hs hclear
    exact ⟨rfl, hready⟩

end Sys2Proof.Machine
end

section
/-!
PROOFS. The invariants under which the other statements speak of a running block (70_reset_and_hazards.md R381,
45_sequencer.md R302): INIT alone sets CONFIGURED, past its check, and whatever writes the configuration clears it; TICK
and INIT alone write STATE, and they write codes of phases.
-/
namespace Sys2Proof.Machine

/-- A step that leaves the configuration and CONFIGURED as they were keeps the configuration a checked one. -/
theorem State.configChecked.of_eq {s t : State} (h : s.configChecked) (hcfg : t.cfg = s.cfg)
    (hconf : t.status.configured = s.status.configured) : t.configChecked := by
  rw [State.configChecked, hcfg, hconf]
  exact h

/-- INIT sets CONFIGURED only past its check, and clears it where the check fails (45_sequencer.md R292). -/
theorem initCommand_configChecked (s : State) : (initCommand s).configChecked := by
  unfold initCommand
  split_ifs with hlegal
  · exact fun _ => (congrArg Cfg.legal (initPass_cfg s)).trans hlegal
  · exact fun hconf => absurd hconf Bool.false_ne_true

/-- Past INIT and TICK no command writes CONFIGURED, and no command at all writes the configuration. -/
theorem exec_configChecked {i : Instr} {s t : State} (h : s.configChecked) (ht : exec i s = .next t) :
    t.configChecked := by
  by_cases hinit : i = .init
  · subst hinit
    exact gated_elim (g := .g3) ht h fun _ => initCommand_configChecked s
  by_cases htick : i = .tick
  · subst htick
    exact gated_elim (g := .g4) ht h fun _ => h.of_eq (tickCommand_cfg s) (tickCommand_configured s)
  · obtain ⟨-, -, hcfg, -⟩ := exec_frame ht
    exact h.of_eq hcfg (exec_writes hinit htick ht).status.configured

/-- A bus write that stores a configuration register or an option clears CONFIGURED; any other leaves both
(20_memory.md R82, R83). -/
theorem busWrite_configChecked (a : Addr) (v : W16) {s : State} (h : s.configChecked) :
    (busWrite a v s).configChecked := by
  obtain ⟨r, -, hcls, he⟩ | ⟨-, he⟩ | he | ⟨r, -, hcls, -, he⟩ | ⟨r, -, -, -, he⟩ := busWrite_cases a v s <;> rw [he]
  · exact h.of_eq (r.set_cfg v s (by simp [hcls])) (congrArg Status.configured (r.set_status v s))
  · obtain ⟨hw, -⟩ | ⟨hw, -⟩ | ⟨hw, -⟩ := writeCtrl_cases v s <;> rw [hw]
    · exact h
    · exact h
    · exact fun hconf => absurd hconf Bool.false_ne_true
  · exact h
  · exact h.of_eq (r.set_cfg v s (by simp [hcls])) (congrArg Status.configured (r.set_status v s))
  · exact fun hconf => absurd hconf Bool.false_ne_true

/-- A TICK in a phase ends in a phase; with STATE above 4 it is refused and leaves STATE (45_sequencer.md R302, R303). -/
theorem tickCommand_phaseLegal {s : State} (h : s.phaseLegal) : (tickCommand s).phaseLegal := by
  unfold tickCommand
  split
  · exact h
  · rename_i p hp
    have hstart : (faultTrip (estim s.latch)).status.state = p.code := by
      rw [faultTrip_status, estim_status_state, State.latch_status]
      exact Phase.code_of_ofCode hp
    rw [State.phaseLegal, dispatch_state hstart]
    exact Phase.code_le_four _

/-- A passing INIT returns STATE to the code of INIT; a failing one leaves it. -/
theorem initCommand_phaseLegal {s : State} (h : s.phaseLegal) : (initCommand s).phaseLegal := by
  unfold initCommand
  split_ifs
  · exact Phase.code_le_four .init
  · exact h

theorem exec_phaseLegal {i : Instr} {s t : State} (h : s.phaseLegal) (ht : exec i s = .next t) : t.phaseLegal := by
  by_cases hinit : i = .init
  · subst hinit
    exact gated_elim (g := .g3) ht h fun _ => initCommand_phaseLegal h
  by_cases htick : i = .tick
  · subst htick
    exact gated_elim (g := .g4) ht h fun _ => tickCommand_phaseLegal h
  · rw [State.phaseLegal, (exec_writes hinit htick ht).status.state]
    exact h

/-- No bus write reaches STATE: STATUS is of class S (10_state.md R32). -/
theorem busWrite_state (a : Addr) (v : W16) (s : State) : (busWrite a v s).status.state = s.status.state := by
  obtain ⟨r, -, -, he⟩ | ⟨-, he⟩ | he | ⟨r, -, -, -, he⟩ | ⟨r, -, -, -, he⟩ := busWrite_cases a v s <;> rw [he]
  · rw [Reg.set_status]
  · obtain ⟨hw, -⟩ | ⟨hw, -⟩ | ⟨hw, -⟩ := writeCtrl_cases v s <;> exact congrArg (·.status.state) hw
  · rfl
  · rw [Reg.set_status]

/-- Settles O54, by the event the step takes: a command and a bus write keep both invariants, and no other event writes
the configuration, CONFIGURED or STATE. -/
theorem everyStepKeepsConfigurationCheckedAndPhaseLegal :
    Obligations.EveryStepKeepsConfigurationCheckedAndPhaseLegal := by
  intro s t ht
  obtain rfl | ⟨e, rest, -, ⟨i, hi⟩ | ⟨a, v, -, rfl⟩ | rfl | ⟨torn, host, telemetry, rfl⟩⟩ := step_cases ht
  · exact ⟨id, id⟩
  · exact ⟨fun h => exec_configChecked (s := { s with port := rest }) h hi,
      fun h => exec_phaseLegal (s := { s with port := rest }) h hi⟩
  · refine ⟨fun h => busWrite_configChecked a v (s := { s with port := rest }) h, fun h => ?_⟩
    rw [State.phaseLegal, busWrite_state]
    exact h
  · exact ⟨id, id⟩
  · exact ⟨id, id⟩

end Sys2Proof.Machine
end

section
/-!
PROOFS. Power-on (70_reset_and_hazards.md R370, R371), under any parameters: every word of the map is 0, and the
invariants that the steps keep hold, those of a running block because CONFIGURED is 0.
-/
namespace Sys2Proof.Machine

theorem hi16_zero : hi16 0 = 0 := by decide

theorem powerOn_ctrl_word (p : Params) : (State.powerOn p).ctrl.word = 0 := by
  simp [State.powerOn, Ctrl.word, flagAt]

theorem powerOn_status_word (p : Params) : (State.powerOn p).status.word = 0 := by
  simp [State.powerOn, Status.word, flagAt]

/-- Each word of the map is a register that is 0 at power-on, or a half of one. -/
theorem Reg.get_powerOn (p : Params) (r : Reg) : r.get (State.powerOn p) = 0 := by
  cases r with
  | ctrl => exact powerOn_ctrl_word p
  | status => exact powerOn_status_word p
  | opaHi | opbHi | opcHi | resHi | dcavgSumHi | acavgSumHi | rmsSumHi | pivIntHi | picIntHi | awCeilHi =>
    exact hi16_zero
  | _ => rfl

/-- Settles O53: a mapped address reads its register's power-on word, a reserved one 0. -/
theorem powerOnIsAllZero : Obligations.PowerOnIsAllZero := by
  refine ⟨fun p a => ?_, fun _ => rfl, rfl⟩
  unfold busRead
  cases Reg.ofAddr a with
  | none => rfl
  | some r => exact r.get_powerOn p

theorem powerOn_not_configured (p : Params) : (State.powerOn p).status.configured ≠ true := Bool.false_ne_true

theorem powerOn_runInvariant (p : Params) : (State.powerOn p).runInvariant :=
  fun hconf => absurd hconf (powerOn_not_configured p)

/-- No collaborator has been called at power-on, and OUTEN is 0 (10_state.md R32). -/
theorem powerOn_outenMirrors (p : Params) : (State.powerOn p).outenMirrors := rfl

/-- Settles O56: at power-on the block is not configured, STATE is INIT, OUTEN and ILLEGAL are 0; reset is a power-on. -/
theorem powerOnMeetsTheInvariants : Obligations.PowerOnMeetsTheInvariants := by
  refine ⟨fun p => ⟨powerOn_runInvariant p, ?_, ?_, powerOn_outenMirrors p, rfl⟩, powerOn_runInvariant _,
    powerOn_outenMirrors _⟩
  · exact fun hconf => absurd hconf (powerOn_not_configured p)
  · exact Phase.code_le_four .init

end Sys2Proof.Machine
end
